-- ==== Sys2Proof/Word.lean ====
section
/-! DEFINITION. The word types of the station (00_scope, Conventions): bytes, words, versions, page identities, station numbers, slot indexes. -/

namespace Sys2Proof

/-- A byte of the bus or of the local port. -/
abbrev Byte := BitVec 8

/-- A word of a page: 16 bits, high byte first wherever it travels. -/
abbrev Word := BitVec 16

/-- A slot version (R11): an unsigned 32-bit count. -/
abbrev Version := BitVec 32

/-- A page identity, 0 to 255 (R44). -/
abbrev PageId := BitVec 8

/-- A station number, 0 to 15. -/
abbrev StationNo := BitVec 4

/-- A slot index, 0 to 63 (R1). -/
abbrev SlotIx := Fin 64

end Sys2Proof
end

