-- ==== Sys2Proof/Machine/Checks.lean ====
section
/-! DEFINITION. Bytes of words and versions, the two CRCs (R183, R184) and the bits of a byte as they travel (R24). -/

namespace Sys2Proof.Machine

/-- A word as its two bytes, high byte first (00_scope, Conventions). -/
def wordBytes (w : Word) : List Byte := [w.extractLsb' 8 8, w.extractLsb' 0 8]

/-- A word from its high and low bytes. -/
def wordOf (high low : Byte) : Word := high ++ low

/-- A version as its four bytes, high byte first. -/
def versionBytes (v : Version) : List Byte :=
  [v.extractLsb' 24 8, v.extractLsb' 16 8, v.extractLsb' 8 8, v.extractLsb' 0 8]

/-- A version from the first four bytes of a list, high byte first; a missing byte reads undriven. -/
def versionOf (bs : List Byte) : Version :=
  bs.getD 0 0xFF ++ bs.getD 1 0xFF ++ bs.getD 2 0xFF ++ bs.getD 3 0xFF

/-- The bytes of a list of words, in order (R13). -/
def wordsBytes : List Word → List Byte
  | [] => []
  | w :: ws => wordBytes w ++ wordsBytes ws

/-- The words spelled by a list of bytes; a last odd byte spells none. -/
def wordsOf : List Byte → List Word
  | h :: l :: rest => wordOf h l :: wordsOf rest
  | _ => []

/-- One shift of the CRC-8 register (R183). -/
def crc8Shift (r : BitVec 8) : BitVec 8 :=
  if r.msb then (r <<< 1) ^^^ 0x07 else r <<< 1

/-- One byte fed to the CRC-8 register (R183). -/
def crc8Byte (r b : BitVec 8) : BitVec 8 :=
  crc8Shift (crc8Shift (crc8Shift (crc8Shift (crc8Shift (crc8Shift (crc8Shift (crc8Shift (r ^^^ b))))))))

/-- Go on with a register's value, as a numeral: it is `k r` (Laws/Checks), and the kernel works it out before it goes on. -/
def evaluated {w : Nat} {α : Type} (r : BitVec w) (k : BitVec w → α) : α :=
  match r.toNat with
  | 0 => k (BitVec.ofNat w 0)
  | n + 1 => k (BitVec.ofNat w (n + 1))

/-- A register fed with bytes in order. -/
def feed {w : Nat} (f : BitVec w → Byte → BitVec w) : BitVec w → List Byte → BitVec w
  | r, [] => r
  | r, b :: bs => evaluated (f r b) fun r' => feed f r' bs

/-- The request check and the answer check over the covered bytes (R183). -/
def crc8 (bytes : List Byte) : Byte := feed crc8Byte 0xFF bytes

/-- One shift of the CRC-16 register (R184). -/
def crc16Shift (r : BitVec 16) : BitVec 16 :=
  if r.msb then (r <<< 1) ^^^ 0x1021 else r <<< 1

/-- One byte fed to the CRC-16 register (R184). -/
def crc16Byte (r : BitVec 16) (b : Byte) : BitVec 16 :=
  crc16Shift (crc16Shift (crc16Shift (crc16Shift (crc16Shift (crc16Shift (crc16Shift (crc16Shift
    (r ^^^ (b ++ 0#8)))))))))

/-- CRC-16 over bytes (R184). -/
def crc16 (bytes : List Byte) : Word := feed crc16Byte 0xFFFF bytes

/-- The bits of a byte in the order they travel, most significant first (00_scope, Conventions). -/
def byteBits (b : Byte) : List Bool :=
  [b.getLsbD 7, b.getLsbD 6, b.getLsbD 5, b.getLsbD 4, b.getLsbD 3, b.getLsbD 2, b.getLsbD 1, b.getLsbD 0]

/-- The byte its bits spell, first bit first; a bit not read counts as undriven, 1 (R22). -/
def byteOf (bits : List Bool) : Byte :=
  BitVec.ofBool (bits.getD 0 true) ++ BitVec.ofBool (bits.getD 1 true) ++ BitVec.ofBool (bits.getD 2 true)
    ++ BitVec.ofBool (bits.getD 3 true) ++ BitVec.ofBool (bits.getD 4 true) ++ BitVec.ofBool (bits.getD 5 true)
    ++ BitVec.ofBool (bits.getD 6 true) ++ BitVec.ofBool (bits.getD 7 true)

end Sys2Proof.Machine
end

