-- ==== Sys2Proof/Syntax.lean ====
section
/-! DEFINITION. The commands of the station: one constructor for each row of spec/opcode_table.json, and the operands they carry. -/

namespace Sys2Proof

/-- What made the station enter RETAIN (R159, R160). -/
inductive FallCause where
  /-- VDD fell below its threshold. -/
  | vddFell
  /-- RST went low. -/
  | rstLow
  deriving DecidableEq, Repr

/-- The straps ST0 to ST3, BR0 to BR1, MH and MS (R162). -/
structure Straps where
  number : StationNo
  rate   : BitVec 2
  mh     : Bool
  ms     : Bool
  deriving DecidableEq, Repr

/-- What a station meets on the two lines inside a frame (R24 to R26). A byte or a bit operand is what
the OTHER stations place (a driven bit reads 0; nothing driven is 0xFF or `false`): what is read is the
wired-AND of that and of the station's own placement (R22). -/
inductive FrameEvent where
  /-- PBD falls with PBC high (another station's opening), or the station's own hold ends (R25, R27). -/
  | opening
  /-- PBC falls: the low phase of the next bit begins, in which a station decides and asks for the store (R24, R34); in
  its own hold a station joins the clock (R25). -/
  | low
  /-- The header is complete; its kind is the row's, its low four bits are placed by the others as given (R43). -/
  | header (originator : StationNo)
  /-- A byte is complete, its eight bits one after the other: page byte, kind field, request check, holder byte, bid byte,
  answer byte or answer check. -/
  | byte (others : Byte)
  /-- A bit is complete, driven (pulled low) by another station or not: a single bit, or the next bit of a byte. -/
  | bit (others : Bool)
  /-- This station, the originator, begins its closing: it drives PBD low in the low phase after its last bit (R167). -/
  | closingBegun
  /-- PBD rises with PBC high: a closing, whatever its cause (R26). The cycle of PBC in which PBD was pulled low for it is part
  of it and no bit. -/
  | closing
  deriving DecidableEq, Repr

/-- How a frame breaks off without a closing (R35). -/
inductive BreakCause where
  /-- PBC stayed high for more than 8 bit times; the gap count then stands at `gap` (R28). -/
  | clockHigh (gap : Nat)
  /-- PBD fell while PBC was high. -/
  | dataFall
  deriving DecidableEq, Repr

/-- One pulse of a bus clear (R38, step 1): whether PBC read high within one bit time of its release, and
whether PBD then read high. -/
structure ClearPulse where
  pbcRose : Bool
  pbdHigh : Bool
  deriving DecidableEq, Repr

/-- What a station reads while it carries out BUS CLEAR (R38): PBD when the command takes effect, each
pulse, and the two lines at the end. -/
structure ClearRun where
  pbdHigh  : Bool
  pulses   : List ClearPulse
  pbcAfter : Bool
  pbdAfter : Bool
  deriving DecidableEq, Repr

/-- The commands of the station, one constructor for each row of the table. `prot` is the level of the PROT
pin at the command (true is high, R111). -/
inductive Instr where
  /-- SUPPLY_FALL (R160); `areasCleared`: how many areas an interrupted cold-start clearing had reached (R163). -/
  | supplyFall (cause : FallCause) (areasCleared : Nat)
  /-- START (R162): the straps, the level of SEL (R171), and whether VBAT held the cells while VDD was absent (R161). -/
  | start (straps : Straps) (selHigh : Bool) (vbatHeld : Bool)
  /-- STORE_CLEARING_END (R100). -/
  | storeClearingEnd
  /-- SETTLE_END (R165). -/
  | settleEnd
  /-- WAITING_QUIET_REACHED (R40). -/
  | waitingQuietReached
  /-- FRAME_OPPORTUNITY (R30); `gap`: the gap count as it stands, in bit times (R28). -/
  | frameOpportunity (gap : Nat) (prot : Bool)
  /-- VERIFY_FRAME (R118). -/
  | verifyFrame (events : List FrameEvent)
  /-- RESYNC_FRAME (R123). -/
  | resyncFrame (prot : Bool) (events : List FrameEvent)
  /-- REPAIR_FRAME (R127). -/
  | repairFrame (prot : Bool) (events : List FrameEvent)
  /-- CLAIM_FRAME (R63). -/
  | claimFrame (prot : Bool) (events : List FrameEvent)
  /-- RELEASE_FRAME (R67). -/
  | releaseFrame (events : List FrameEvent)
  /-- OFFER_FRAME (R72). -/
  | offerFrame (prot : Bool) (events : List FrameEvent)
  /-- WRITE_FRAME (R81). -/
  | writeFrame (prot : Bool) (events : List FrameEvent)
  /-- READ_FRAME (R93). -/
  | readFrame (events : List FrameEvent)
  /-- UNDEFINED_KIND_FRAME (R46): the kind read is 8 + `kindLow`. -/
  | undefinedKindFrame (kindLow : BitVec 3) (events : List FrameEvent)
  /-- BREAK_OFF (R35). -/
  | breakOff (cause : BreakCause)
  /-- STUCK_BUS (R36). -/
  | stuckBus
  /-- STUCK_RELEASED (R27). -/
  | stuckReleased
  /-- STORE_ACCESS_END (R103). -/
  | storeAccessEnd
  /-- SCRUB_TICK (R106). -/
  | scrubTick
  /-- SEEK_TICK (R117). -/
  | seekTick
  /-- TRANSACTION_START (R168). -/
  | transactionStart
  /-- TRANSACTION_END (R170); `sckEdge`: whether SCK had a rising edge in the transaction. -/
  | transactionEnd (sckEdge : Bool)
  /-- IDENTIFY, 0x01 (R174). -/
  | identify
  /-- CLAIM, 0x10 (R134). -/
  | claim (page : PageId) (prot : Bool)
  /-- ADOPT, 0x11 (R134). -/
  | adopt (page : PageId) (prot : Bool)
  /-- RELEASE, 0x12 (R135). -/
  | release (page : PageId)
  /-- WRITE, 0x20 (R136): page, offset, count − 1, and the words received. -/
  | write (page : PageId) (offset : Byte) (countLess1 : Byte) (words : List Word)
  /-- READ, 0x21 (R137). -/
  | read (page : PageId) (offset : Byte) (countLess1 : Byte)
  /-- TAKE_RESULT, 0x22 (R143). -/
  | takeResult
  /-- SET_POINTER, 0x28 (R175). -/
  | setPointer (page : PageId) (word : Byte)
  /-- STREAM_READ, 0x29 (R175). -/
  | streamRead (countLess1 : Byte)
  /-- BLOCK_READ, 0x2A (R176). -/
  | blockRead (c : Byte)
  /-- READ_OUTCOME, 0x30 (R146). -/
  | readOutcome
  /-- READ_ACCRUED, 0x31 (R148). -/
  | readAccrued
  /-- CLEAR_ACCRUED, 0x32 (R148). -/
  | clearAccrued
  /-- TAKE_CAUSE, 0x38 (R181). -/
  | takeCause
  /-- RETURN, 0x39 (R181). -/
  | returnNotice
  /-- SET_ENABLES, 0x3A (R182). -/
  | setEnables (enables : Byte)
  /-- READ_LATCHES, 0x3B (R182). -/
  | readLatches
  /-- CLEAR_LATCHES, 0x3C (R182). -/
  | clearLatches (mask : Byte)
  /-- READ_FAULT, 0x40 (R152). -/
  | readFault
  /-- EDIT_FAULT, 0x41 (R153). -/
  | editFault (page : PageId) (offset : Byte)
  /-- RESUME, 0x42 (R154). -/
  | resume
  /-- DISCARD, 0x43 (R155). -/
  | discard
  /-- REWRITE, 0x44 (R156). -/
  | rewrite
  /-- READ_SLOT, 0x48 (R178). -/
  | readSlot (index : Byte)
  /-- QUEUE_STATE, 0x49 (R144). -/
  | queueState
  /-- ABANDON, 0x50 (R145). -/
  | abandon
  /-- BUS_CLEAR, 0x51 (R38). -/
  | busClear
  /-- BUS_CLEAR_END (R39). -/
  | busClearEnd (run : ClearRun)
  /-- UNKNOWN_COMMAND (R172): a command byte that names no command. -/
  | unknownCommand (code : Byte)
  /-- LOW_LEVEL_BETWEEN_FRAMES (R28). -/
  | lowLevelBetweenFrames
  /-- REPLY_BYTE_CLOCKED_OUT (R169, R170, R177); `sckHeld`: SCK stood high at the end of the byte before, and fell, with this
  byte's first bit, only when the reply that now stands ready had become ready (R168). Where nothing is said it fell at once. -/
  | replyByteClockedOut (sckHeld : Bool := false)
  deriving DecidableEq, Repr

end Sys2Proof
end

