-- ==== Sys2Proof/Decode.lean ====
section
/-! DEFINITION. Reading a command: from an opcode-table word, which never spells one (opcode_table.json gives no row any bits, 98_reader: n_rows_with_fields 0), and from the bytes of a transaction at the local port (R168, R172). -/

namespace Sys2Proof

/-- The command an opcode-table word spells: none for every word, because no row of the table has bits. -/
def decodeTableWord (_nbits _w : Nat) : Option Instr := none

/-- A WRITE command's arguments (R136, R172): a count - 1 above 7 is complete without words; else it takes effect at the last byte
of its last word, and bytes after that are ignored. -/
def writeOf (page : PageId) (offset countLess1 : Byte) (rest : List Byte) : Option Instr :=
  let n := 2 * (countLess1.toNat + 1)
  if 7 < countLess1.toNat then some (.write page offset countLess1 [])
  else if rest.length < n then none
  else some (.write page offset countLess1 (Machine.wordsOf (rest.take n)))

/-- The command that the bytes received whole in a transaction name, once its last argument byte is among them; none while bytes
are wanting; bytes after it are ignored (R168, R172). `prot` is the level of PROT as CLAIM and ADOPT read it (R111). -/
def commandOf (prot : Bool) (received : List Byte) : Option Instr :=
  match received with
  | [] => none
  | code :: args =>
    match code.toNat, args with
    | 0x01, _ => some .identify
    | 0x10, page :: _ => some (.claim page prot)
    | 0x11, page :: _ => some (.adopt page prot)
    | 0x12, page :: _ => some (.release page)
    | 0x20, page :: offset :: c :: rest => writeOf page offset c rest
    | 0x21, page :: offset :: c :: _ => some (.read page offset c)
    | 0x22, _ => some .takeResult
    | 0x28, page :: word :: _ => some (.setPointer page word)
    | 0x29, c :: _ => some (.streamRead c)
    | 0x2A, c :: _ => some (.blockRead c)
    | 0x30, _ => some .readOutcome
    | 0x31, _ => some .readAccrued
    | 0x32, _ => some .clearAccrued
    | 0x38, _ => some .takeCause
    | 0x39, _ => some .returnNotice
    | 0x3A, enables :: _ => some (.setEnables enables)
    | 0x3B, _ => some .readLatches
    | 0x3C, mask :: _ => some (.clearLatches mask)
    | 0x40, _ => some .readFault
    | 0x41, page :: offset :: _ => some (.editFault page offset)
    | 0x42, _ => some .resume
    | 0x43, _ => some .discard
    | 0x44, _ => some .rewrite
    | 0x48, index :: _ => some (.readSlot index)
    | 0x49, _ => some .queueState
    | 0x50, _ => some .abandon
    | 0x51, _ => some .busClear
    | 0x10, [] | 0x11, [] | 0x12, [] | 0x20, _ | 0x21, _ | 0x28, _ | 0x29, [] | 0x2A, [] | 0x3A, [] | 0x3C, []
    | 0x41, _ | 0x48, [] => none
    | _, _ => some (.unknownCommand code)

end Sys2Proof
end

