-- ==== Sys2Proof/Config.lean ====
section
/-! DEFINITION. What the part fixes: sizes, limits and codes. The spec leaves no value of the station free, so no free value stands here. -/

namespace Sys2Proof.Config

/-- Words of one page (R1). -/
abbrev wordsPerPage : Nat := 128

/-- Bytes of one store area: 128 words of two bytes. -/
abbrev areaBytes : Nat := 256

/-- Bytes of the whole store: 64 areas (R99). -/
abbrev storeBytes : Nat := 16384

/-- Entries the send queue can hold (R132). -/
abbrev queueCapacity : Nat := 8

/-- Quiet gap of a station whose own-frame marker is clear, in bit times (R23, R28). -/
abbrev quietGap : Nat := 12

/-- Quiet gap after an own frame, and the quiet of a WAITING view, in bit times (R23, R28, R40). -/
abbrev ownGap : Nat := 24

/-- Stuck limit, in bit times, to be exceeded (R23, R36). -/
abbrev stuckLimit : Nat := 2048

/-- Pulses of a bus clear (R38). -/
abbrev maxPulses : Nat := 16

/-- Bytes of a page stream: version, words, page check (13.1). -/
abbrev streamBytes : Nat := 262

/-- The marker that opens a reply part (R169). -/
abbrev replyMarker : Byte := 0x5A

/-- The greatest version a slot can hold (R11, R98). -/
abbrev wornVersion : Version := 0xFFFFFFFF

end Sys2Proof.Config
end

