-- ==== Sys2Proof/Machine/State.lean ====
section
/-! DEFINITION. The state of the station as plain data: every piece of state the spec names, and the state before the first start. -/

namespace Sys2Proof.Machine

/-- Why a step could stop the machine: never. The spec gives the station no event that stops it, and every
command has an effect or leaves the state as it is (NOTES.md, Stops); so no constructor. -/
inductive Fault where
  deriving DecidableEq, Repr

/-- Why a command could have no meaning. -/
inductive Refusal where
  /-- Raised by a refused arm of `exec` for a row that has no meaning yet; no arm raises it. Safe: the model stops. -/
  | notModelled (mnemonic : String)
  deriving DecidableEq, Repr

/-! ### Slot table (01_pages_slots_and_roles) -/

/-- Slot states (R2). -/
inductive SlotState where
  | free | claiming | primary | mirror | stale | doubt | incoming
  deriving DecidableEq, Repr

/-- A slot record (R2). -/
structure Slot where
  state       : SlotState
  page        : Option PageId
  partner     : Option StationNo
  version     : Version
  check       : Word
  damaged     : Bool
  seekDue     : Bool
  recoveryDue : Bool
  attempts    : Fin 4
  deriving DecidableEq, Repr

/-- A FREE slot record (R4, R21). -/
def Slot.freed : Slot :=
  ⟨.free, none, none, 0, 0, false, false, false, 0⟩

/-- The 64 slot records (R1). -/
abbrev SlotTable := Vector Slot 64

/-! ### The store (06_the_store_and_the_scrub_unit) -/

/-- The store's bytes, in canonical form: addresses rising, no byte 0 (an unlisted byte reads 0, R21). -/
abbrev Store := List Host.Cell

/-! ### Supply monitor (10_supply_retention_and_start_up) -/

/-- Station states (R159). -/
inductive StationState where
  | retain | settle | rejoin | run
  deriving DecidableEq, Repr

/-- Start kinds (R162). -/
inductive StartKind where
  | cold | warm
  deriving DecidableEq, Repr

/-! ### Line unit (02_the_page_bus) -/

/-- The line unit's view of the bus (R27). -/
inductive View where
  | waiting | quiet | opening
  /-- IN FRAME, with the mark of a frame joined from WAITING. -/
  | inFrame (joinedWaiting : Bool)
  | stuck | clearing
  deriving DecidableEq, Repr

/-! ### Frame engine (03_anatomy_of_a_frame) -/

/-- The kinds of frame the part opens (R43); also the kinds of operation (R146). -/
inductive Kind where
  | verify | resync | repair | claim | release | offer | write | read
  deriving DecidableEq, Repr

/-- The operation a frame of this station belongs to (R146): the queue entry in flight, or upkeep work for a slot. -/
inductive OpRef where
  | entry
  | upkeep (kind : Kind) (slot : SlotIx)
  deriving DecidableEq, Repr

/-- The frame this station opens: its operation and its request part, header to request check (R30, R41). -/
structure OwnFrame where
  op      : OpRef
  request : List Byte
  deriving DecidableEq, Repr

/-- A station's part in a frame (R42). -/
inductive Part where
  | opener | originator | participant | onlooker
  deriving DecidableEq, Repr

/-- The field of the frame that comes next in the station's own reading of it (R41, R59). `over`: the frame is
complete where it stands, and a closing here ends it as closed; `past`: bits have come after that, and a closing is a
break-off. -/
inductive Point where
  | header | page | field | check | void | presence | fill | holder
  | accept | source | drop | bid | answer | answerCheck | ack | hold | winnerAck | over | past
  deriving DecidableEq, Repr

/-- The role bit a station drove (R42). -/
inductive RoleDrive where
  | none | presence | fill
  deriving DecidableEq, Repr

/-- How the holder contest stands (R42). -/
inductive Contest where
  | notDriving | won | lost
  deriving DecidableEq, Repr

/-- What an originator or bid winner decided about the access that completes its frame: not come to, asked of
the store, or kept back because PROT read high (R64, R77, R124, R128). -/
inductive LoadDecision where
  | none | requested | keptBack
  deriving DecidableEq, Repr

/-- The record of the frame in progress (R42). Its "store access" field is what the arbiter holds. -/
structure FrameRecord where
  part         : Part
  point        : Point
  /-- the low phase of the next bit has begun, and what the station does there is done -/
  low          : Bool
  /-- the bits of the byte in progress read so far, first bit first; a bit read driven is `false` (R24) -/
  bits         : List Bool
  /-- the kind code, once the header is read -/
  kindCode     : Option (BitVec 4)
  originator   : StationNo
  page         : Option PageId
  slot         : Option SlotIx
  /-- the request part as read, header first -/
  request      : List Byte
  checkGood    : Bool
  voidRead     : Bool
  roleDrive    : RoleDrive
  presence     : Bool
  fill         : Bool
  contest      : Contest
  /-- the slot of record lost the holder contest as PRIMARY and was demoted (R53) -/
  demoted      : Bool
  holderByte   : Byte
  holder       : Option StationNo
  /-- the slot set aside and the bid placed, while the bid byte is in progress (R75) -/
  setAside     : Option SlotIx
  bid          : Byte
  bidByte      : Byte
  /-- the slot reserved as INCOMING by a bid won (R75) -/
  incoming     : Option SlotIx
  /-- the accept, source or drop bit as read -/
  choice       : Bool
  /-- whether this station drove that bit -/
  choiceDriven : Bool
  /-- the status byte decided as holder of a WRITE (R83) -/
  status       : Option Byte
  /-- answer bytes this station has still to send -/
  toSend       : List Byte
  /-- answer bytes as read, by a sender of them too (R33) -/
  answer       : List Byte
  /-- the answer check: not yet read, or good or not -/
  answerCheck  : Option Bool
  ack          : Bool
  hold         : Bool
  /-- this station applies the WRITE as mirror at the ACK bit (R86) -/
  mirrorApply  : Bool
  /-- this station drove the HOLD bit (R87) -/
  holdDriven   : Bool
  load         : LoadDecision
  /-- this station holds PBD low since the last bit it placed (R24) -/
  pbdHeld      : Bool
  /-- this station, an opener, has driven a bit of the request part that no other station drove: it is not one of two with the
  same number that open together (R33) -/
  alone        : Bool
  /-- this station, the originator, has begun its closing and made the changes due at it (R167) -/
  closed       : Bool
  deriving DecidableEq, Repr

/-- The record as it is begun (R42). -/
def FrameRecord.begun (part : Part) : FrameRecord :=
  { part := part, point := .header, low := false, bits := [], kindCode := none, originator := 0, page := none,
    slot := none, request := [], checkGood := false, voidRead := false, roleDrive := .none,
    presence := false, fill := false, contest := .notDriving, demoted := false, holderByte := 0xFF, holder := none,
    setAside := none, bid := 0xFF, bidByte := 0xFF, incoming := none, choice := false,
    choiceDriven := false, status := none, toSend := [], answer := [], answerCheck := none,
    ack := false, hold := false, mirrorApply := false, holdDriven := false, load := .none,
    pbdHeld := false, alone := false, closed := false }

/-! ### Store arbiter (06) -/

/-- The claimants, the frame engine's two requests apart (R102, R103). -/
inductive Claimant where
  | frame | handover | port | scrub
  deriving DecidableEq, Repr

/-- The five kinds of access (R101). -/
inductive AccessKind where
  | snapshot
  | wordWrite (offset : Nat) (words : List Word) (version : Version)
  | pageLoad (version : Version) (words : List Word) (check : Word)
  | zeroFill
  | checkStep
  deriving DecidableEq, Repr

/-- A request before the arbiter (R102). -/
structure Request where
  slot : SlotIx
  kind : AccessKind
  deriving DecidableEq, Repr

/-- The access in progress (R103). -/
structure Access where
  claimant : Claimant
  slot     : SlotIx
  kind     : AccessKind
  /-- the page the slot held when the access began (R107) -/
  page     : Option PageId
  /-- the slot's damaged mark when the access began: a snapshot reads it (R101) -/
  damaged  : Bool
  /-- the claimant still acts on its end (R104, R171) -/
  live     : Bool
  deriving DecidableEq, Repr

/-- The arbiter: the access in progress and the requests waiting (R103). -/
structure Arbiter where
  inProgress : Option Access
  frame      : Option Request
  handover   : Option Request
  port       : Option Request
  scrub      : Option Request
  deriving DecidableEq, Repr

/-- The arbiter after a start (R105). -/
def Arbiter.idle : Arbiter := ⟨none, none, none, none, none⟩

/-! ### Upkeep scheduler (07_recovery_and_rejoin) -/

/-- The upkeep operation in progress (R114), with the flags its frames have added (R116). -/
structure UpkeepOp where
  kind  : Kind
  slot  : SlotIx
  flags : BitVec 16
  deriving DecidableEq, Repr

/-! ### Send queue (08_the_send_queue_and_outcomes) -/

/-- Modes of a CLAIM entry (R132). -/
inductive ClaimMode where
  | new | adopt
  deriving DecidableEq, Repr

/-- What an entry asks (R132): the fields present for its kind. A CLAIM of mode NEW names its CLAIMING slot (R5). -/
inductive EntryBody where
  | write (page : PageId) (offset : Byte) (data : List Word)
  | read (page : PageId) (offset : Byte) (count : Nat)
  | claim (page : PageId) (mode : ClaimMode) (slot : Option SlotIx)
  | release (page : PageId)
  deriving DecidableEq, Repr

/-- A send-queue entry (R132). -/
structure Entry where
  tag      : Byte
  body     : EntryBody
  attempts : Fin 4
  gathered : BitVec 16
  inFlight : Bool
  deriving DecidableEq, Repr

/-- Outcomes and causes (13.4). -/
inductive Code where
  | granted | held | prot | notHeld | released | left | ok | damaged | range | noHolder
  | worn | void | broken | timeout | answerBad
  deriving DecidableEq, Repr

/-- The result record while it is valid (R142). -/
structure ResultRecord where
  tag     : Byte
  kind    : Kind
  mode    : Option ClaimMode
  outcome : Code
  page    : PageId
  holder  : Option StationNo
  /-- OK (`false`) or DAMAGED (`true`) for a READ that carries words -/
  status  : Option Bool
  words   : List Word
  deriving DecidableEq, Repr

/-- The outcome set (R146): sixteen flags (13.5), the operation's identity, and whether it has ended. -/
structure OutcomeSet where
  flags    : BitVec 16
  identity : Option (Kind × Byte)
  ended    : Bool
  deriving DecidableEq, Repr

/-! ### Fault unit (09_fault_records) -/

/-- A write held in a fault record (R149). -/
structure HeldWrite where
  tag    : Byte
  page   : PageId
  offset : Byte
  data   : List Word
  deriving DecidableEq, Repr

/-- Which entry of a record failed validation (R149). -/
inductive FailingEntry where
  | first | follower1 | follower2
  deriving DecidableEq, Repr

/-- Which field failed validation (R149). -/
inductive FailingField where
  | offset | range
  deriving DecidableEq, Repr

/-- A fault record (R149). -/
inductive FaultRecord where
  | writeFailed (cause : Code) (first : HeldWrite) (followers : List HeldWrite)
  | format (entry : FailingEntry) (field : FailingField) (page : PageId) (offset : Byte)
  deriving DecidableEq, Repr

/-! ### Local port (11_the_local_port) -/

/-- Status codes of the local port (R173). -/
inductive Status where
  | ok | accepted | empty | notReady | unknown | invalid | busy | full | prot | noSlot
  | heldHere | notHeld | damaged | range | badEdit | cleared | stillStuck
  deriving DecidableEq, Repr

/-- A reply part ready to be sent: its status, its data, and whether it came of a snapshot (R169, R177). -/
structure ReplyPart where
  status   : Status
  data     : List Byte
  snapshot : Bool
  deriving DecidableEq, Repr

/-- Page data a command returns: `count` words of a page from `first` on; `stream` for STREAM READ and BLOCK
READ, whose NOTHELD parts still carry words (R177). -/
structure PartSpec where
  page   : PageId
  first  : Nat
  count  : Nat
  stream : Bool
  deriving DecidableEq, Repr

/-- The transaction in progress (R168 to R171). -/
structure Transaction where
  /-- bytes of its command in whole before the one with which it takes effect (R168) -/
  received      : Nat
  /-- its command has taken effect -/
  taken         : Bool
  /-- its first status byte has been clocked out -/
  statusSent    : Bool
  /-- parts ready and not yet begun -/
  ready         : List ReplyPart
  /-- the part being sent, and how many of its bytes (marker, status, data) are out -/
  sending       : Option (ReplyPart × Nat)
  /-- the part whose snapshot is asked of the store -/
  awaiting      : Option PartSpec
  /-- parts not yet due -/
  todo          : List PartSpec
  /-- the reply waits for a bus clear to end (R39) -/
  awaitingClear : Bool
  /-- the first bit of the byte now going out on SDO went out as filler (R169) -/
  fillerBegun   : Bool
  deriving DecidableEq, Repr

/-- A transaction as it begins (R168). -/
def Transaction.begun : Transaction := ⟨0, false, false, [], none, none, [], false, false⟩

/-! ### The station -/

/-- The whole station. -/
structure State where
  /- supply monitor -/
  station   : StationState
  straps    : Straps
  startKind : StartKind
  clearing  : Bool
  vddGood   : Bool
  mark      : Bool
  prot      : Bool
  /- slot table and store -/
  slots     : SlotTable
  store     : Store
  /- line unit -/
  view      : View
  gap       : Nat
  stuck     : Nat
  marker    : Bool
  /- frame engine -/
  own       : Option OwnFrame
  frame     : Option FrameRecord
  /- store arbiter, scrub unit, upkeep scheduler -/
  arbiter   : Arbiter
  scrubPtr  : SlotIx
  upkeep    : Option UpkeepOp
  /- send queue -/
  queue     : List Entry
  abandoned : Option Entry
  nextTag   : Byte
  result    : Option ResultRecord
  outcome   : OutcomeSet
  accrued   : BitVec 6
  /- fault unit -/
  faults    : List FaultRecord
  editPage   : PageId
  editOffset : Byte
  /- local port -/
  selHigh     : Bool
  txn         : Option Transaction
  pointerPage : PageId
  pointerWord : BitVec 7
  short       : Bool
  sdo         : Byte
  /- notice unit -/
  latches   : BitVec 6
  enables   : BitVec 6
  master    : Bool
  /- the model's own: commands waiting -/
  pending   : List Instr
  deriving DecidableEq, Repr

/-- A part that has never been started (R159): in RETAIN, its retention mark invalid. The values the spec gives
no part in RETAIN are the model's (log 8, log 9). -/
def State.reset : State :=
  { station := .retain, straps := ⟨0, 0, false, false⟩, startKind := .cold, clearing := false,
    vddGood := false, mark := false, prot := false,
    slots := Vector.replicate 64 Slot.freed, store := [],
    view := .waiting, gap := 0, stuck := 0, marker := false, own := none, frame := none,
    arbiter := .idle, scrubPtr := 0, upkeep := none,
    queue := [], abandoned := none, nextTag := 0, result := none, outcome := ⟨0, none, false⟩,
    accrued := 0, faults := [], editPage := 0, editOffset := 0,
    selHigh := true, txn := none, pointerPage := 0, pointerWord := 0, short := false, sdo := 0,
    latches := 0, enables := 0, master := false, pending := [] }

end Sys2Proof.Machine
end

