-- ==== Sys2Proof/Machine/Flags.lean ====
section
/-! DEFINITION. The flag sets: the outcome flags (R146, 13.5), their combination into the accrued set (R147), the latches and NOTE (R179, R180). -/

namespace Sys2Proof.Machine

/-- The sixteen outcome flags (R146). -/
inductive Flag where
  | arbLost | void | broken | timeout | answerBad | noHolder | takeover | unmirrored
  | staleMirror | prot | worn | damaged | noBidder | noAck | demoted | refused
  deriving DecidableEq, Repr

/-- A flag's position in the outcome set (13.5). -/
def Flag.pos : Flag → Nat
  | .arbLost => 15 | .void => 14 | .broken => 13 | .timeout => 12 | .answerBad => 11
  | .noHolder => 10 | .takeover => 9 | .unmirrored => 8 | .staleMirror => 7 | .prot => 6
  | .worn => 5 | .damaged => 4 | .noBidder => 3 | .noAck => 2 | .demoted => 1 | .refused => 0

/-- A set of outcome flags with one flag more. -/
def withFlag (f : Flag) (set : BitVec 16) : BitVec 16 := set ||| (1#16 <<< f.pos)

/-- Whether a set holds a flag. -/
def hasFlag (f : Flag) (set : BitVec 16) : Bool := set.getLsbD f.pos

/-- The six accrued flags (R147). -/
inductive AccruedFlag where
  | link | loss | degraded | damage | contention | unfound
  deriving DecidableEq, Repr

/-- An accrued flag's position (13.5). -/
def AccruedFlag.pos : AccruedFlag → Nat
  | .link => 5 | .loss => 4 | .degraded => 3 | .damage => 2 | .contention => 1 | .unfound => 0

/-- One accrued flag as a set. -/
def AccruedFlag.mask (a : AccruedFlag) : BitVec 6 := 1#6 <<< a.pos

/-- The accrued flags an ended operation's outcome flags raise (the table of R147). -/
def accruedOf (isWrite : Bool) (f : BitVec 16) : BitVec 6 :=
  (if hasFlag .void f || hasFlag .broken f || hasFlag .timeout f || hasFlag .answerBad f
    then AccruedFlag.link.mask else 0) |||
  (if isWrite && (hasFlag .noHolder f || hasFlag .prot f || hasFlag .worn f)
    then AccruedFlag.loss.mask else 0) |||
  (if hasFlag .takeover f || hasFlag .unmirrored f || hasFlag .staleMirror f || hasFlag .demoted f
    then AccruedFlag.degraded.mask else 0) |||
  (if hasFlag .damaged f then AccruedFlag.damage.mask else 0) |||
  (if hasFlag .arbLost f then AccruedFlag.contention.mask else 0) |||
  (if hasFlag .noBidder f || hasFlag .noAck f || hasFlag .refused f
    then AccruedFlag.unfound.mask else 0)

/-- Set accrued flags; a flag already set stays set (R147). -/
def State.accrue (s : State) (flags : BitVec 6) : State := { s with accrued := s.accrued ||| flags }

/-- The six latches, in priority order (R179). -/
inductive Latch where
  | power | fault | damage | role | link | done
  deriving DecidableEq, Repr

/-- A latch's position in the latches, the enables and the mask (13.5). -/
def Latch.pos : Latch → Nat
  | .power => 5 | .fault => 4 | .damage => 3 | .role => 2 | .link => 1 | .done => 0

/-- One latch as a set. -/
def Latch.mask (l : Latch) : BitVec 6 := 1#6 <<< l.pos

/-- The latches in priority order (R179). -/
def Latch.inOrder : List Latch := [.power, .fault, .damage, .role, .link, .done]

/-- A latch's cause code (13.4). -/
def Latch.cause : Latch → Byte
  | .power => 0x01 | .fault => 0x02 | .damage => 0x03 | .role => 0x04 | .link => 0x05 | .done => 0x06

/-- A block reports its event: the latch is set, whatever the enables stand at (R179). -/
def State.setLatch (s : State) (l : Latch) : State := { s with latches := s.latches ||| l.mask }

/-- The NOTE line: asserted exactly when the master enable and an enabled latch are set (R180). -/
def noteAsserted (s : State) : Bool := s.master && (s.latches &&& s.enables) != 0#6

/-- The first latch in priority order that is set and enabled (R181). -/
def firstCause (s : State) : Option Latch :=
  Latch.inOrder.find? fun l => (s.latches &&& s.enables).getLsbD l.pos

/-- The kind code of a frame, an entry or an operation (R43, 13.4). -/
def Kind.code : Kind → BitVec 4
  | .verify => 0 | .resync => 1 | .repair => 2 | .claim => 3 | .release => 4 | .offer => 5
  | .write => 6 | .read => 7

/-- The kind a header's high four bits name, if the part defines it (R43, R46). -/
def Kind.ofCode (c : BitVec 4) : Option Kind :=
  [Kind.verify, .resync, .repair, .claim, .release, .offer, .write, .read].find? (·.code == c)

/-- An entry's kind (R132). -/
def EntryBody.kind : EntryBody → Kind
  | .write _ _ _ => .write
  | .read _ _ _ => .read
  | .claim _ _ _ => .claim
  | .release _ => .release

/-- An entry's page (R132). -/
def EntryBody.page : EntryBody → PageId
  | .write p _ _ => p
  | .read p _ _ => p
  | .claim p _ _ => p
  | .release p => p

/-- An entry's mode, for a CLAIM (R132). -/
def EntryBody.mode : EntryBody → Option ClaimMode
  | .claim _ m _ => some m
  | _ => none

/-- Whether an entry is a WRITE. -/
def Entry.isWrite (e : Entry) : Bool := e.body.kind == .write

/-- The identity of an entry's operation (R146). -/
def Entry.identity (e : Entry) : Kind × Byte := (e.body.kind, e.tag)

/-- The identity of an upkeep operation: its kind and the slot's index (R146). -/
def UpkeepOp.identity (op : UpkeepOp) : Kind × Byte := (op.kind, BitVec.ofNat 8 op.slot.val)

/-- The upkeep operation ends: its flags are combined into the accrued set, and the outcome set, where it still
shows the operation, is marked ended (R116, R147). -/
def endUpkeep (s : State) : State :=
  match s.upkeep with
  | none => s
  | some op =>
    { s with
      upkeep := none
      accrued := s.accrued ||| accruedOf false op.flags
      outcome := if s.outcome.identity = some op.identity then { s.outcome with ended := true } else s.outcome }

end Sys2Proof.Machine
end

