-- ==== Sys2Proof/Machine/Ops.lean ====
section
/-! DEFINITION. The named operations over the store (R99) and over the slot table (R1 to R21): reading and writing bytes, words and pages, finding slots, and every change of a slot's state. -/

namespace Sys2Proof.Machine

/-! ### The store -/

/-- The form of a store from address `low` on: addresses rising, inside the store, no byte 0. -/
def Store.wfFrom : Nat → Store → Bool
  | _, [] => true
  | low, (a, b) :: rest =>
    decide (low ≤ a) && decide (a < Config.storeBytes) && b != 0#8 && Store.wfFrom (a + 1) rest

/-- The canonical form of the store. -/
def Memory.wf (m : Store) : Bool := Store.wfFrom 0 m

/-- The byte at an address; an unlisted byte reads 0 (log 11). -/
def Store.read : Store → Nat → Byte
  | [], _ => 0#8
  | (a', b) :: rest, a => if a' = a then b else Store.read rest a

/-- Write one byte, keeping the canonical form. -/
def Store.write : Store → Nat → Byte → Store
  | [], a, b => if b = 0#8 then [] else [(a, b)]
  | (a', b') :: rest, a, b =>
    if a < a' then (if b = 0#8 then (a', b') :: rest else (a, b) :: (a', b') :: rest)
    else if a = a' then (if b = 0#8 then rest else (a, b) :: rest)
    else (a', b') :: Store.write rest a b

/-- Write bytes from an address on. -/
def Store.writeBytes : Store → Nat → List Byte → Store
  | m, _, [] => m
  | m, a, b :: bs => Store.writeBytes (Store.write m a b) (a + 1) bs

/-- The address of the high byte of word `w` of area `i` (R99, log 11). -/
def wordAddress (i : SlotIx) (w : Nat) : Nat := Config.areaBytes * i.val + 2 * w

/-- Word `w` of area `i`. -/
def Store.word (m : Store) (i : SlotIx) (w : Nat) : Word :=
  wordOf (m.read (wordAddress i w)) (m.read (wordAddress i w + 1))

/-- The 128 words of area `i`. -/
def Store.page (m : Store) (i : SlotIx) : List Word :=
  (List.range Config.wordsPerPage).map (m.word i)

/-- Write words into area `i` from word `offset` on; words past word 127 are outside the area and are not
written (R99, R101, log 26). -/
def Store.writeWords (m : Store) (i : SlotIx) (offset : Nat) (words : List Word) : Store :=
  m.writeBytes (wordAddress i offset) (wordsBytes (words.take (Config.wordsPerPage - offset)))

/-- Write 0x0000 to the areas below `n` (R100). -/
def Store.clearAreas (m : Store) (n : Nat) : Store :=
  m.filter fun c => decide (Config.areaBytes * n ≤ c.1)

/-- The page check of a version and the words of a page (R13, R184). -/
def pageCheck (v : Version) (words : List Word) : Word := crc16 (versionBytes v ++ wordsBytes words)

/-! ### The slot table -/

/-- The slot record at an index. -/
def State.slot (s : State) (i : SlotIx) : Slot := s.slots[i]

/-- Every slot record changed alike. -/
def mapSlots (f : Slot → Slot) (slots : SlotTable) : SlotTable := ⟨(slots.toList.map f).toArray, by simp⟩

/-- The lowest-indexed slot that meets a condition, if any. -/
def firstSlot (s : State) (p : Slot → Bool) : Option SlotIx :=
  (List.finRange 64).find? fun i => p (s.slot i)

/-- The station's slot for a page (R1): the slot, not FREE, that holds the page. -/
def lookup (s : State) (page : PageId) : Option SlotIx :=
  firstSlot s fun r => r.state != .free && r.page == some page

/-- PRIMARY or MIRROR: the states served by local reads and scrubbed (R2). -/
def SlotState.serves (st : SlotState) : Bool := st == .primary || st == .mirror

/-- Whether slot `i` holds the page as PRIMARY or MIRROR. -/
def holdsServing (s : State) (i : SlotIx) (page : PageId) : Bool :=
  (s.slot i).state.serves && (s.slot i).page == some page

/-- Whether any slot is DOUBT. -/
def anyDoubt (s : State) : Bool := (firstSlot s fun r => r.state == .doubt).isSome

/-- The number of FREE slots. -/
def freeSlots (s : State) : Nat :=
  ((List.finRange 64).filter fun i => (s.slot i).state == .free).length

/-- Change one slot record. A scrub request waiting on a slot that is then neither PRIMARY nor MIRROR is
withdrawn (R104, R107). -/
def State.setSlot (s : State) (i : SlotIx) (r : Slot) : State :=
  { s with
    slots := s.slots.set i r
    arbiter := { s.arbiter with
      scrub := s.arbiter.scrub.filter fun q => !(q.slot == i) || r.state.serves } }

/-- The slot becomes FREE (R4). An upkeep operation on it, other than an OFFER, has then lost its recovery due and ends (R116);
the outcome set, where it still shows that operation, is marked ended even in another station's frame (R146, log 46). -/
def freeSlot (i : SlotIx) (s : State) : State :=
  let s := s.setSlot i Slot.freed
  match s.upkeep with
  | some op => if op.slot = i ∧ op.kind ≠ .offer then endUpkeep s else s
  | none => s

/-- The slot becomes CLAIMING for a page (R5). -/
def becomeClaiming (i : SlotIx) (page : PageId) (s : State) : State :=
  s.setSlot i { Slot.freed with state := .claiming, page := some page }

/-- The slot becomes INCOMING for a page (R6). -/
def becomeIncoming (i : SlotIx) (page : PageId) (partner : StationNo) (s : State) : State :=
  s.setSlot i { Slot.freed with state := .incoming, page := some page, partner := some partner }

/-- The slot becomes STALE with a partner (R9, R17). -/
def becomeStale (i : SlotIx) (partner : Option StationNo) (s : State) : State :=
  s.setSlot i { s.slot i with
    state := .stale, partner := partner, damaged := false, seekDue := false, recoveryDue := true, attempts := 0 }

/-- The slot becomes PRIMARY with the partner and damaged mark given (R7, R15, R17). -/
def becomePrimary (i : SlotIx) (partner : Option StationNo) (damaged : Bool) (s : State) : State :=
  s.setSlot i { s.slot i with
    state := .primary, partner := partner, damaged := damaged,
    seekDue := partner.isNone && s.straps.ms, recoveryDue := damaged && partner.isSome, attempts := 0 }

/-- The slot becomes MIRROR of a partner by a good load (R8). -/
def becomeMirror (i : SlotIx) (partner : StationNo) (s : State) : State :=
  s.setSlot i { s.slot i with
    state := .mirror, partner := some partner, damaged := false, seekDue := false, recoveryDue := false, attempts := 0 }

/-- A PRIMARY slot loses its partner (R15, R19). -/
def clearPartner (i : SlotIx) (s : State) : State :=
  s.setSlot i { s.slot i with partner := none, seekDue := s.straps.ms }

/-- A PRIMARY slot gains a partner (R15, R18). -/
def gainPartner (i : SlotIx) (partner : StationNo) (s : State) : State :=
  s.setSlot i { s.slot i with partner := some partner, seekDue := false }

/-- Seek due of a slot is cleared (R78). -/
def clearSeek (i : SlotIx) (s : State) : State := s.setSlot i { s.slot i with seekDue := false }

/-- A PRIMARY slot is marked damaged by the scrub (R110). -/
def markDamaged (i : SlotIx) (s : State) : State :=
  let r := s.slot i
  s.setSlot i (if r.partner.isSome then { r with damaged := true, recoveryDue := true, attempts := 0 }
    else { r with damaged := true })

/-- A good REPAIR load: the damaged mark is cleared and the attempts become 0 (R128). -/
def repaired (i : SlotIx) (s : State) : State :=
  s.setSlot i { s.slot i with damaged := false, attempts := 0 }

/-- A failed recovery frame adds one to the slot's attempts; at 3 recovery due is cleared and the operation ends
(R16, R116). -/
def failRecovery (i : SlotIx) (s : State) : State :=
  let r := s.slot i
  if r.attempts = 0 then s.setSlot i { r with attempts := 1 }
  else if r.attempts = 1 then s.setSlot i { r with attempts := 2 }
  else endUpkeep (s.setSlot i { r with attempts := 3, recoveryDue := false })

/-- A RESYNC that finds no holder sets the attempts to 3 directly (R16, R125). -/
def spendRecovery (i : SlotIx) (s : State) : State :=
  endUpkeep (s.setSlot i { s.slot i with attempts := 3, recoveryDue := false })

/-- The slot table reports a role change: ROLE is set, and a participant's own accrued DEGRADED where the change is
a promotion, a demotion or a loss of partner (R19, R147). -/
def reportRole (degraded : Bool) (s : State) : State :=
  let s := s.setLatch .role
  if degraded then s.accrue AccruedFlag.degraded.mask else s

end Sys2Proof.Machine
end

