-- ==== Sys2Proof/Machine/Arbiter.lean ====
section
/-! DEFINITION. The store arbiter (R101 to R105): requests, grants, withdrawals. An access makes its change whole at its grant (log 5). -/

namespace Sys2Proof.Machine

/-- The 128 words of an empty page (R64). -/
def zeroPage : List Word := List.replicate Config.wordsPerPage 0

/-- The change an access makes to its slot's area and to the fields that go with it (R101). -/
def applyAccess (i : SlotIx) (k : AccessKind) (s : State) : State :=
  match k with
  | .snapshot | .checkStep => s
  | .wordWrite offset words v =>
    let m := s.store.writeWords i offset words
    { s with store := m }.setSlot i { s.slot i with version := v, check := pageCheck v (m.page i) }
  | .pageLoad v words c =>
    { s with store := s.store.writeWords i 0 words }.setSlot i { s.slot i with version := v, check := c }
  | .zeroFill =>
    { s with store := s.store.writeWords i 0 zeroPage }.setSlot i
      { s.slot i with version := 0, check := pageCheck 0 zeroPage }

/-- Grant a request: its access begins (R103). -/
def grant (c : Claimant) (q : Request) (s : State) : State :=
  let s := applyAccess q.slot q.kind s
  { s with arbiter := { s.arbiter with
      inProgress := some ⟨c, q.slot, q.kind, (s.slot q.slot).page, (s.slot q.slot).damaged, true⟩ } }

/-- Whether a request is waiting. -/
def Arbiter.anyWaiting (a : Arbiter) : Bool :=
  a.frame.isSome || a.handover.isSome || a.port.isSome || a.scrub.isSome

/-- A request arrives: granted at once when nothing runs and nothing waits, otherwise it waits (R103). -/
def request (c : Claimant) (q : Request) (s : State) : State :=
  if s.arbiter.inProgress.isNone && !s.arbiter.anyWaiting then grant c q s
  else
    { s with arbiter :=
      match c with
      | .frame => { s.arbiter with frame := some q }
      | .handover => { s.arbiter with handover := some q }
      | .port => { s.arbiter with port := some q }
      | .scrub => { s.arbiter with scrub := some q } }

/-- The station with another arbiter state. -/
def State.withArbiter (s : State) (a : Arbiter) : State := { s with arbiter := a }

/-- When nothing runs, the next waiting request is granted: frame, hand-over snapshot, local port, scrub (R103). -/
def grantNext (s : State) : State :=
  match s.arbiter.inProgress, s.arbiter.frame, s.arbiter.handover, s.arbiter.port, s.arbiter.scrub with
  | some _, _, _, _, _ => s
  | none, some q, _, _, _ => grant .frame q (s.withArbiter { s.arbiter with frame := none })
  | none, none, some q, _, _ => grant .handover q (s.withArbiter { s.arbiter with handover := none })
  | none, none, none, some q, _ => grant .port q (s.withArbiter { s.arbiter with port := none })
  | none, none, none, none, some q => grant .scrub q (s.withArbiter { s.arbiter with scrub := none })
  | none, none, none, none, none => s

/-- The access in progress of a claimant goes on, but its claimant no longer acts on its end (R104, R171). -/
def disown (c : Claimant) (a : Arbiter) : Arbiter :=
  { a with inProgress := a.inProgress.map fun x => if x.claimant = c then { x with live := false } else x }

/-- The need for a claimant's request has gone: a waiting one is withdrawn, one in progress runs to its end for
nobody (R104). -/
def withdraw (c : Claimant) (s : State) : State :=
  let a := disown c s.arbiter
  { s with arbiter :=
    match c with
    | .frame => { a with frame := none }
    | .handover => { a with handover := none }
    | .port => { a with port := none }
    | .scrub => { a with scrub := none } }

/-- Whether a claimant waits for the store or for an access of its own to end. -/
def Arbiter.busyFor (a : Arbiter) (c : Claimant) : Bool :=
  (match c with
    | .frame => a.frame.isSome
    | .handover => a.handover.isSome
    | .port => a.port.isSome
    | .scrub => a.scrub.isSome) ||
  (match a.inProgress with
    | some x => x.claimant == c && x.live
    | none => false)

/-- The scrub unit's step (R106): none, waiting at the arbiter, or in progress, on a slot. -/
inductive ScrubStep where
  | none
  | waiting (slot : SlotIx)
  | inProgress (slot : SlotIx)
  deriving DecidableEq, Repr

/-- The step as the arbiter holds it. -/
def scrubStep (s : State) : ScrubStep :=
  match s.arbiter.scrub, s.arbiter.inProgress with
  | some q, _ => .waiting q.slot
  | _, some a => if a.claimant = .scrub then .inProgress a.slot else .none
  | _, _ => .none

end Sys2Proof.Machine
end

