-- ==== Sys2Proof/Machine/Port.lean ====
section
/-! DEFINITION. The local port's reply machinery (R168 to R173, R177): when a command takes effect, reply parts, page parts, and the bytes clocked out. -/

namespace Sys2Proof.Machine

/-- The numeric value of a status code (13.3). -/
def Status.code : Status → Byte
  | .ok => 0x01 | .accepted => 0x02 | .empty => 0x03 | .notReady => 0x10 | .unknown => 0x11
  | .invalid => 0x12 | .busy => 0x13 | .full => 0x14 | .prot => 0x15 | .noSlot => 0x16
  | .heldHere => 0x17 | .notHeld => 0x18 | .damaged => 0x20 | .range => 0x21 | .badEdit => 0x22
  | .cleared => 0x30 | .stillStuck => 0x31

/-- Change the transaction in progress. -/
def modifyTxn (f : Transaction → Transaction) (s : State) : State := { s with txn := s.txn.map f }

/-- The byte before it is out whole, or its command has taken effect: with the next fall of SCK the first bit of the next byte
goes out on SDO, as filler where no part is being sent and none is ready (R168, R169, log 23). -/
def nextByteBegins (s : State) : State :=
  modifyTxn (fun t => { t with fillerBegun := t.sending.isNone && t.ready.isEmpty }) s

/-- A local command can take effect: a transaction is in progress and no command of it has yet (R168). -/
def canTake (s : State) : Bool :=
  s.station != .retain && (match s.txn with
    | some t => !t.taken
    | none => false)

/-- The command has taken effect and its reply is ready at once, in one part (R169). -/
def reply (status : Status) (data : List Byte) (s : State) : State :=
  modifyTxn (fun t => { t with taken := true, ready := t.ready ++ [⟨status, data, false⟩], fillerBegun := false }) s

/-- A local command other than IDENTIFY and the unknown ones: it acts where one can take effect; in SETTLE it is
refused NOTREADY (R165, R172). -/
def localCommand (body : State → State) (s : State) : State :=
  if !canTake s then s
  else if s.station = .settle then reply .notReady [] s
  else body s

/-- The data of a NOTHELD page part (R137, R177). -/
def notHeldData (p : PartSpec) : List Byte :=
  if p.stream then List.replicate (2 * p.count) 0xFF else []

/-- A page part falls due (R177 steps 1 to 3, R137): its snapshot is asked for, or it is NOTHELD without one. -/
def partDue (p : PartSpec) (s : State) : State :=
  match (lookup s p.page).filter fun i => (s.slot i).state.serves with
  | none => modifyTxn (fun t => { t with ready := t.ready ++ [⟨.notHeld, notHeldData p, false⟩] }) s
  | some i => request .port ⟨i, .snapshot⟩ (modifyTxn (fun t => { t with awaiting := some p }) s)

/-- The next part not yet due falls due. -/
def nextPartDue (s : State) : State :=
  match s.txn with
  | none => s
  | some t =>
    match t.todo with
    | [] => s
    | p :: rest => partDue p { s with txn := some { t with todo := rest } }

/-- A command that returns page data has taken effect: its first part falls due (R177). -/
def startParts (ps : List PartSpec) (s : State) : State :=
  nextByteBegins (nextPartDue (modifyTxn (fun t => { t with taken := true, todo := ps }) s))

/-- The words of a part, from a page (R175, R176, R137). -/
def partData (p : PartSpec) (page : List Word) : List Byte :=
  wordsBytes ((page.drop p.first).take p.count)

/-- The local port's snapshot of slot `i` has ended (R177 step 3, R137): where the slot still holds the page the part is OK
or DAMAGED by the snapshot's own mark (R101), else NOTHELD; and the next part falls due. -/
def portSnapshotEnds (i : SlotIx) (damaged : Bool) (s : State) : State :=
  match s.txn with
  | none => s
  | some t =>
    match t.awaiting with
    | none => s
    | some p =>
      let part : ReplyPart :=
        if holdsServing s i p.page then
          ⟨if damaged then .damaged else .ok, partData p (s.store.page i), true⟩
        else ⟨.notHeld, notHeldData p, true⟩
      nextPartDue { s with txn := some { t with awaiting := none, ready := t.ready ++ [part] } }

/-- Byte `n` of a reply part: marker, status with the SHORT flag where it is carried, then data (R169, 13.3). -/
def partByte (p : ReplyPart) (carryShort : Bool) : Nat → Byte
  | 0 => Config.replyMarker
  | 1 => p.status.code ||| (if carryShort then 0x80 else 0)
  | n + 2 => p.data.getD n 0

/-- The number of bytes of a reply part. -/
def ReplyPart.length (p : ReplyPart) : Nat := p.data.length + 2

/-- Byte `n` of part `p` has been clocked out whole (R170). After the status byte of a part without a snapshot its words begin to be
sent, with the same fall of SCK, and the next part falls due (R177, log 24). -/
def partByteSent (p : ReplyPart) (n : Nat) (t : Transaction) (s : State) : State :=
  let carry := s.short && !t.statusSent
  let t' := { t with
    sending := if n + 1 < p.length then some (p, n + 1) else none
    statusSent := t.statusSent || n == 1 }
  let s := { s with
    txn := some t'
    sdo := partByte p carry n
    short := s.short && !(n == 1 && carry) }
  if n = 1 ∧ !p.snapshot ∧ !p.data.isEmpty then nextPartDue s else s

/-- A byte of a reply has been clocked out on SDO: the next byte of the part being sent; or else the marker of the next part
ready; or filler, where none is ready, or none was when the byte began. Where SCK was held high until the reply was ready, the
byte began after that (R168, R169). -/
def replyByteSent (sckHeld : Bool) (t : Transaction) (s : State) : State :=
  match t.sending, t.ready with
  | some (p, n), _ => partByteSent p n t s
  | none, p :: rest =>
    if t.fillerBegun && !sckHeld then { s with sdo := 0 } else partByteSent p 0 { t with ready := rest } s
  | none, [] => { s with sdo := 0 }

/-- A byte has been clocked out on SDO: before the command takes effect it is 0x00, and a byte of the command is in whole with it
(R168); from then on it is a byte of the reply, and the next byte begins. -/
def clockOut (sckHeld : Bool) (s : State) : State :=
  match s.txn with
  | none => s
  | some t =>
    if t.taken then nextByteBegins (replyByteSent sckHeld t s)
    else { s with sdo := 0, txn := some { t with received := t.received + 1 } }

/-- The station drives SDO only while SEL is low and it is in SETTLE, REJOIN or RUN (R160, R168). -/
def drivesSdo (s : State) : Bool := !s.selHigh && s.station != .retain

/-- The transaction's stage (R168). -/
inductive Stage where
  | command | arguments | waiting | replying | done
  deriving DecidableEq, Repr

/-- The stage a transaction stands in: a part that became ready inside a byte begun as filler waits for the byte's end. -/
def Transaction.stage (t : Transaction) : Stage :=
  if !t.taken then (if t.received = 0 then .command else .arguments)
  else if t.sending.isSome || (!t.ready.isEmpty && !t.fillerBegun) then .replying
  else if !t.ready.isEmpty || t.awaiting.isSome || !t.todo.isEmpty || t.awaitingClear then .waiting
  else .done

end Sys2Proof.Machine
end

