-- ==== Sys2Proof/Machine/SendQueue.lean ====
section
/-! DEFINITION. The send queue's own work (R132 to R158): the entry in flight, outcome flags, completion, counted attempts, result records, and the forming of fault records. -/

namespace Sys2Proof.Machine

/-- The entry whose frame is in flight: the one given up by ABANDON, or else the head (R132, R145). -/
def currentEntry (s : State) : Option Entry :=
  match s.abandoned with
  | some e => some e
  | none => s.queue.head?

/-- Change the entry whose frame is in flight. -/
def modifyCurrent (f : Entry → Entry) (s : State) : State :=
  match s.abandoned with
  | some e => { s with abandoned := some (f e) }
  | none => { s with queue := match s.queue with
      | [] => []
      | e :: rest => f e :: rest }

/-- The frame in progress, which this station opened, adds a flag: to the outcome set, and to the flags gathered for
its operation (R146). -/
def addFlag (f : Flag) (s : State) : State :=
  match s.own with
  | none => s
  | some own =>
    let s := { s with outcome := { s.outcome with flags := withFlag f s.outcome.flags } }
    match own.op with
    | .entry => modifyCurrent (fun e => { e with gathered := withFlag f e.gathered }) s
    | .upkeep _ _ => { s with upkeep := s.upkeep.map fun op => { op with flags := withFlag f op.flags } }

/-- Add a flag where a condition holds. -/
def addFlagIf (b : Bool) (f : Flag) (s : State) : State := if b then addFlag f s else s

/-- An entry's operation ends: its flags are combined into the accrued set, and the outcome set shows it ended
(R146, R147). -/
def endEntry (e : Entry) (s : State) : State :=
  { s with
    accrued := s.accrued ||| accruedOf e.isWrite e.gathered
    outcome := if s.outcome.identity = some e.identity then { s.outcome with ended := true } else s.outcome }

/-- A CLAIM NEW entry that leaves the queue otherwise than GRANTED frees its CLAIMING slot (R5, R140). -/
def freeClaim (e : Entry) (s : State) : State :=
  match e.body with
  | .claim _ .new (some i) => if (s.slot i).state = .claiming then s.setSlot i Slot.freed else s
  | _ => s

/-- The entry given up by ABANDON is discarded: no retry, no result record, no fault record (R145). -/
def discardAbandoned (granted : Bool) (s : State) : State :=
  match s.abandoned with
  | none => s
  | some e =>
    let s := endEntry e { s with abandoned := none }
    if granted then s else freeClaim e s

/-- Fill the result record from an entry and set DONE (R140, R142). -/
def fillResult (e : Entry) (code : Code) (holder : Option StationNo) (status : Option Bool)
    (words : List Word) (s : State) : State :=
  { s with result := some ⟨e.tag, e.body.kind, e.body.mode, code, e.body.page, holder, status, words⟩ }.setLatch .done

/-- Take the first `n` WRITE entries for a page out of the queue, in order (R150). -/
def takeFollowers (page : PageId) : Nat → List Entry → List HeldWrite × List Entry
  | 0, q => ([], q)
  | _, [] => ([], [])
  | n + 1, e :: q =>
    match e.body with
    | .write p off data =>
      if p = page then
        let (ws, rest) := takeFollowers page n q
        (⟨e.tag, p, off, data⟩ :: ws, rest)
      else
        let (ws, rest) := takeFollowers page (n + 1) q
        (ws, e :: rest)
    | _ =>
      let (ws, rest) := takeFollowers page (n + 1) q
      (ws, e :: rest)

/-- The fault unit pushes a record and sets FAULT (R150, R157). -/
def pushFault (r : FaultRecord) (s : State) : State :=
  { s with faults := r :: s.faults }.setLatch .fault

/-- A WRITE that has failed finally and left the queue becomes a WRITE-FAILED record with its followers (R150). -/
def formRecord (cause : Code) (first : HeldWrite) (s : State) : State :=
  let (followers, rest) := takeFollowers first.page 2 s.queue
  pushFault (.writeFailed cause first followers) { s with queue := rest }

/-- The head leaves the queue completed or finally failed, with what it leaves behind (R139 to R141). -/
def headEnds (e : Entry) (rest : List Entry) (code : Code) (holder : Option StationNo)
    (status : Option Bool) (words : List Word) (s : State) : State :=
  let s := endEntry e { s with queue := rest }
  match e.body with
  | .write page off data => formRecord code ⟨e.tag, page, off, data⟩ s
  | _ => fillResult e code holder status words (if code = .granted then s else freeClaim e s)

/-- The entry in flight completes or fails finally with a code (R139). -/
def completeEntry (code : Code) (holder : Option StationNo) (status : Option Bool)
    (words : List Word) (s : State) : State :=
  match s.abandoned with
  | some _ => discardAbandoned (code = .granted) s
  | none =>
    match s.queue with
    | [] => s
    | e :: rest => if e.inFlight then headEnds e rest code holder status words s else s

/-- The WRITE entry in flight completes APPLIED and leaves nothing (R90, R141). -/
def completeApplied (s : State) : State :=
  match s.abandoned with
  | some _ => discardAbandoned false s
  | none =>
    match s.queue with
    | [] => s
    | e :: rest => if e.inFlight then endEntry e { s with queue := rest } else s

/-- The entry stays at the head with its attempts as they were (R139); one given up by ABANDON is discarded. -/
def keepEntry (s : State) : State :=
  match s.abandoned with
  | some _ => discardAbandoned false s
  | none => modifyCurrent (fun e => { e with inFlight := false }) s

/-- A try counts one attempt; at the third the entry fails finally with the cause (R139). -/
def countAttempt (cause : Code) (s : State) : State :=
  match s.abandoned with
  | some _ => discardAbandoned false s
  | none =>
    match s.queue with
    | [] => s
    | e :: rest =>
      if !e.inFlight then s
      else if e.attempts = 0 then { s with queue := { e with attempts := 1, inFlight := false } :: rest }
      else if e.attempts = 1 then { s with queue := { e with attempts := 2, inFlight := false } :: rest }
      else headEnds { e with attempts := 3, inFlight := false } rest cause none none [] s

/-- A hand-over test completes the head without a frame (R138, R146): the outcome set is given to it, cleared, and
takes PROTECTED or DAMAGED where that is its outcome. -/
def settleWithoutFrame (code : Code) (status : Option Bool) (words : List Word) (s : State) : State :=
  match s.queue with
  | [] => s
  | e :: rest =>
    let flags : BitVec 16 :=
      match code with
      | .prot => withFlag .prot 0
      | .damaged => withFlag .damaged 0
      | _ => 0
    headEnds { e with gathered := e.gathered ||| flags } rest code none status words
      { s with outcome := ⟨flags, some e.identity, false⟩ }

/-- The lost arbitration of a frame this station opened (R32, R138): ARBLOST is recorded, no attempt counts, the
frame is no longer this station's. -/
def loseArbitration (s : State) : State :=
  match s.own with
  | none => s
  | some own =>
    let s := addFlag .arbLost s
    let s := match own.op with
      | .entry => keepEntry s
      | .upkeep _ _ => s
    { s with own := none }

/-- An entry put back by RESUME or REWRITE (R158). -/
def putBack (w : HeldWrite) : Entry := ⟨w.tag, .write w.page w.offset w.data, 0, 0, false⟩

/-- The entries counted against the queue's room and its one entry other than a WRITE (R133): one given up by
ABANDON is in `abandoned` and not counted. -/
def queueFull (s : State) : Bool := decide (Config.queueCapacity ≤ s.queue.length)

/-- Whether the queue holds an entry other than a WRITE (R133). -/
def hasNonWrite (s : State) : Bool := s.queue.any fun e => !e.isWrite

end Sys2Proof.Machine
end

