-- ==== Sys2Proof/Machine/Operands.lean ====
section
/-! DEFINITION. The operand forms: the fields of a frame's request and answer as bytes (13.1), and the images and codes the local port's replies carry (13.4 to 13.6). -/

namespace Sys2Proof.Machine

/-! ### The request part of a frame (13.1) -/

/-- The request part of a frame, header to request check (R41, R43, R47). -/
def requestBytes (k : Kind) (number : StationNo) (page : PageId) (fields : List Byte) : List Byte :=
  let covered : List Byte := (k.code ++ number) :: page :: fields
  covered ++ [crc8 covered]

/-- The kind of the frame in progress, once the header is read and names one of this part's kinds. -/
def FrameRecord.kind (r : FrameRecord) : Option Kind := r.kindCode.bind Kind.ofCode

/-- The version field of a VERIFY, RESYNC, REPAIR or OFFER request. -/
def FrameRecord.reqVersion (r : FrameRecord) : Version := versionOf (r.request.drop 2)

/-- The mode byte of a CLAIM or RELEASE request. -/
def FrameRecord.reqMode (r : FrameRecord) : Byte := r.request.getD 2 0xFF

/-- The offset byte of a WRITE or READ request. -/
def FrameRecord.reqOffset (r : FrameRecord) : Nat := (r.request.getD 2 0xFF).toNat

/-- The count of a WRITE or READ request. -/
def FrameRecord.reqCount (r : FrameRecord) : Nat := (r.request.getD 3 0xFF).toNat + 1

/-- The data words of a WRITE request. -/
def FrameRecord.reqWords (r : FrameRecord) : List Word := (wordsOf (r.request.drop 4)).take r.reqCount

/-- A RELEASE frame's mode is RELEASE and not LEAVE (13.1). -/
def FrameRecord.modeRelease (r : FrameRecord) : Bool := r.reqMode == 0x01

/-- A CLAIM frame's mode is NEW and not ADOPT (13.1). -/
def FrameRecord.modeNew (r : FrameRecord) : Bool := r.reqMode == 0x01

/-- Whether offset and count run past the end of the page (R83, R93). -/
def FrameRecord.pastPage (r : FrameRecord) : Bool :=
  decide (Config.wordsPerPage < r.reqOffset + r.reqCount)

/-- The number of bytes from the header to the last kind field, as far as the bytes read tell (R45). -/
def requestLength (k : Kind) (request : List Byte) : Nat :=
  match k with
  | .verify | .resync | .repair | .offer => 6
  | .claim | .release => 3
  | .read => 4
  | .write => if request.length < 4 then 4 else 4 + 2 * ((request.getD 3 0).toNat + 1)

/-- The field just read, the last byte of `request`, holds a value its kind does not define (R45). -/
def malformed (k : Kind) (request : List Byte) : Bool :=
  match k with
  | .claim | .release =>
    request.length == 3 && !(request.getD 2 0 == 0x01 || request.getD 2 0 == 0x02)
  | .write => request.length == 4 && decide (7 < (request.getD 3 0).toNat)
  | .read => request.length == 4 && decide (15 < (request.getD 3 0).toNat)
  | _ => false

/-- The mode byte of a CLAIM entry (13.1). -/
def ClaimMode.code : ClaimMode → Byte
  | .new => 0x01
  | .adopt => 0x02

/-! ### The answer part of a frame (13.1) -/

/-- The status codes a holder sends in a WRITE or a READ, and every other value (R185). -/
inductive BusStatus where
  | applied | prot | worn | range | ok | damaged | unlisted
  deriving DecidableEq, Repr

/-- The status byte of a WRITE without its mirrored flag (13.1). -/
def writeStatusCode : BusStatus → Byte
  | .applied => 0x01 | .prot => 0x02 | .worn => 0x03 | _ => 0x04

/-- The status byte a WRITE holder places (R83). -/
def writeStatusByte (st : BusStatus) (mirrored : Bool) : Byte :=
  writeStatusCode st ||| (if mirrored then 0x80 else 0)

/-- The status a WRITE's status byte reads as (13.1, R185). -/
def writeStatus (b : Byte) : BusStatus :=
  let c := b &&& 0x7F
  if c = 0x01 then .applied else if c = 0x02 then .prot else if c = 0x03 then .worn
  else if c = 0x04 then .range else .unlisted

/-- The status a READ's status byte reads as: its bits 6 to 0 alone (13.1, R185). -/
def readStatus (b : Byte) : BusStatus :=
  let c := b &&& 0x7F
  if c = 0x01 then .ok else if c = 0x02 then .damaged else if c = 0x04 then .range else .unlisted

/-- The mirrored flag of a WRITE's status byte (13.1). -/
def mirroredFlag (b : Byte) : Bool := b.msb

/-- The status byte of the answer, if read. -/
def FrameRecord.statusByte (r : FrameRecord) : Option Byte := r.answer.head?

/-- The status byte of a WRITE that settles it: the byte read; at an originator that holds the page itself its own decision (R90),
but for one of two of the same number, which acts on what it read (R33, log 41). -/
def FrameRecord.settledByte (r : FrameRecord) : Option Byte :=
  if r.contest = .won ∧ r.alone then r.status else r.statusByte

/-- The status that byte reads as (13.1, R185). -/
def FrameRecord.settledStatus (r : FrameRecord) : BusStatus := (r.settledByte.map writeStatus).getD .unlisted

/-- The holder of a WRITE has answered APPLIED (R84, R89). -/
def FrameRecord.answeredApplied (r : FrameRecord) : Bool := r.status.any fun b => writeStatus b == .applied

/-- The number of answer bytes before the answer check, as far as the bytes read tell (13.1, R185). -/
def answerLength (k : Kind) (r : FrameRecord) : Nat :=
  match k with
  | .verify => 4
  | .resync | .repair | .offer => Config.streamBytes
  | .write =>
    match r.statusByte with
    | some b => if writeStatus b = .applied then 5 else 1
    | none => 1
  | .read =>
    match r.statusByte with
    | some b => if readStatus b = .ok ∨ readStatus b = .damaged then 1 + 2 * r.reqCount else 1
    | none => 1
  | .claim | .release => 0

/-- The WRITE's status read APPLIED. -/
def FrameRecord.readApplied (r : FrameRecord) : Bool :=
  match r.statusByte with
  | some b => writeStatus b == .applied
  | none => false

/-- The version announced in the answer of a WRITE (R85). -/
def FrameRecord.announced (r : FrameRecord) : Version := versionOf (r.answer.drop 1)

/-- The version at the front of an answer: a VERIFY's, or a stream's (13.1). -/
def FrameRecord.answerVersion (r : FrameRecord) : Version := versionOf r.answer

/-- The words of a stream read (13.1). -/
def FrameRecord.streamWords (r : FrameRecord) : List Word :=
  (wordsOf (r.answer.drop 4)).take Config.wordsPerPage

/-- The page check of a stream read (13.1). -/
def FrameRecord.streamCheck (r : FrameRecord) : Word :=
  wordOf (r.answer.getD 260 0xFF) (r.answer.getD 261 0xFF)

/-- The words of a READ answer (R93). -/
def FrameRecord.readWords (r : FrameRecord) : List Word := (wordsOf (r.answer.drop 1)).take r.reqCount

/-- A page stream of a slot, as it stands (13.1). -/
def streamOf (i : SlotIx) (s : State) : List Byte :=
  versionBytes (s.slot i).version ++ wordsBytes (s.store.page i) ++ wordBytes (s.slot i).check

/-- Covered bytes followed by their answer check (R56, R183). -/
def withCheck (covered : List Byte) : List Byte := covered ++ [crc8 covered]

/-! ### Codes inside records (13.4) -/

/-- A flag at a position of a byte. -/
def bitAt (n : Nat) (b : Bool) : Byte := if b then (1#8 <<< n) else 0

/-- The code of a slot state. -/
def SlotState.code : SlotState → Byte
  | .free => 0 | .claiming => 1 | .primary => 2 | .mirror => 3 | .stale => 4 | .doubt => 5 | .incoming => 6

/-- An outcome's or a cause's code. -/
def Code.code : Code → Byte
  | .granted => 0x01 | .held => 0x02 | .prot => 0x03 | .notHeld => 0x04 | .released => 0x05
  | .left => 0x06 | .ok => 0x07 | .damaged => 0x08 | .range => 0x09 | .noHolder => 0x0A
  | .worn => 0x0B | .void => 0x0C | .broken => 0x0D | .timeout => 0x0E | .answerBad => 0x0F

/-- A station state's code; RETAIN has none, since nothing is answered in it. -/
def StationState.code : StationState → Byte
  | .retain => 0 | .settle => 1 | .rejoin => 2 | .run => 3

/-- A start kind's code. -/
def StartKind.code : StartKind → Byte
  | .cold => 0
  | .warm => 1

/-- A kind code as a byte. -/
def Kind.byte (k : Kind) : Byte := 0#4 ++ k.code

/-- A mode as a byte; 0x00 none. -/
def modeByte : Option ClaimMode → Byte
  | some m => m.code
  | none => 0

/-- A count as a byte. -/
def countByte (n : Nat) : Byte := BitVec.ofNat 8 n

/-- A set of six flags as a byte. -/
def sixFlags (f : BitVec 6) : Byte := 0#2 ++ f

/-! ### Reply data (13.6) -/

/-- The data of IDENTIFY. -/
def identifyData (s : State) : List Byte :=
  [0x64, 0x16, 0#4 ++ s.straps.number,
   0#4 ++ s.straps.rate ++ BitVec.ofBool s.straps.mh ++ BitVec.ofBool s.straps.ms,
   s.station.code, s.startKind.code]

/-- The slot image. -/
def slotImage (r : Slot) : List Byte :=
  [r.state.code,
   bitAt 7 r.page.isSome ||| bitAt 6 r.partner.isSome ||| bitAt 5 r.damaged ||| bitAt 4 r.seekDue
     ||| bitAt 3 r.recoveryDue ||| BitVec.ofNat 8 r.attempts.val,
   r.page.getD 0,
   0#4 ++ r.partner.getD 0]
  ++ versionBytes r.version ++ wordBytes r.check

/-- The result record image. -/
def resultImage (r : ResultRecord) : List Byte :=
  [r.tag, r.kind.byte, modeByte r.mode, r.outcome.code, r.page,
   (match r.holder with
    | some h => 0#4 ++ h
    | none => 0xFF),
   (match r.status with
    | some damaged => if damaged then Status.damaged.code else Status.ok.code
    | none => 0),
   countByte r.words.length]
  ++ wordsBytes r.words

/-- An entry of a WRITE-FAILED record. -/
def heldImage (w : HeldWrite) : List Byte :=
  [w.tag, w.page, w.offset, countByte w.data.length] ++ wordsBytes w.data

/-- A failing entry's code. -/
def FailingEntry.code : FailingEntry → Byte
  | .first => 0
  | .follower1 => 1
  | .follower2 => 2

/-- A failing field's code. -/
def FailingField.code : FailingField → Byte
  | .offset => 0x01
  | .range => 0x02

/-- A fault record's own fields, its kind first. -/
def faultImage : FaultRecord → List Byte
  | .writeFailed cause first followers =>
    [0x01, cause.code, countByte followers.length] ++ heldImage first
      ++ (followers.map heldImage).flatten
  | .format entry field page offset => [0x02, entry.code, field.code, page, offset]

/-- The four bytes of an entry in the queue image. -/
def entryImage (e : Entry) : List Byte :=
  [e.tag, bitAt 7 e.inFlight ||| (modeByte e.body.mode <<< 4) ||| e.body.kind.byte, e.body.page,
   BitVec.ofNat 8 e.attempts.val]

/-- The queue image (R144). -/
def queueImage (s : State) : List Byte :=
  [countByte s.queue.length, s.nextTag,
   bitAt 0 s.result.isSome ||| bitAt 1 (anyDoubt s) ||| bitAt 2 (!s.faults.isEmpty)
     ||| bitAt 3 s.abandoned.isSome,
   (match s.abandoned with
    | some e => e.tag
    | none => 0)]
  ++ (s.queue.map entryImage).flatten

/-- The data of READ OUTCOME (R146). -/
def outcomeImage (o : OutcomeSet) : List Byte :=
  [o.flags.extractLsb' 8 8, o.flags.extractLsb' 0 8,
   (match o.identity with
    | some (k, _) => k.byte
    | none => 0xFF),
   (match o.identity with
    | some (_, n) => n
    | none => 0),
   if o.ended then 0x01 else 0x00]

end Sys2Proof.Machine
end

