-- ==== Sys2Proof/Machine/FaultCommands.lean ====
section
/-! DEFINITION. The fault unit's commands (R152 to R158). -/

namespace Sys2Proof.Machine

/-- READ FAULT in REJOIN or RUN (R152). -/
def readFault (s : State) : State :=
  match s.faults with
  | [] => reply .empty [0] s
  | top :: _ => reply .ok (countByte s.faults.length :: faultImage top) s

/-- READ_FAULT (R152). -/
def execReadFault (s : State) : Host.Outcome State Fault Refusal := .next (localCommand readFault s)

/-- EDIT FAULT in REJOIN or RUN (R153). -/
def editFault (page : PageId) (offset : Byte) (s : State) : State :=
  reply .accepted [page, offset] { s with editPage := page, editOffset := offset }

/-- EDIT_FAULT (R153). -/
def execEditFault (page : PageId) (offset : Byte) (s : State) : Host.Outcome State Fault Refusal :=
  .next (localCommand (editFault page offset) s)

/-- A record's writes are put back ahead of every entry, where there is room, and the record is removed (R154, R158). -/
def putBackAll (writes : List HeldWrite) (rest : List FaultRecord) (s : State) : State :=
  if Config.queueCapacity < s.queue.length + writes.length then reply .full [] s
  else reply .accepted [countByte writes.length]
    { s with queue := writes.map putBack ++ s.queue, faults := rest }

/-- RESUME in REJOIN or RUN (R154). -/
def resume (s : State) : State :=
  match s.faults with
  | [] => reply .empty [] s
  | .format _ _ _ _ :: _ => reply .invalid [] s
  | .writeFailed _ first followers :: rest => putBackAll (first :: followers) rest s

/-- RESUME (R154). -/
def execResume (s : State) : Host.Outcome State Fault Refusal := .next (localCommand resume s)

/-- DISCARD in REJOIN or RUN (R155). -/
def discardTop (s : State) : State :=
  match s.faults with
  | [] => reply .empty [] s
  | .format _ _ _ _ :: rest => reply .accepted [0] { s with faults := rest }
  | .writeFailed _ _ followers :: rest =>
    reply .accepted [countByte (followers.length + 1)] { s with faults := rest }

/-- DISCARD (R155). -/
def execDiscard (s : State) : Host.Outcome State Fault Refusal := .next (localCommand discardTop s)

/-- A write from an offset runs past the page (R157). -/
def runsPast (offset : Byte) (data : List Word) : Bool :=
  decide (Config.wordsPerPage < offset.toNat + data.length)

/-- The followers that fail, with their places, in order (R157). -/
def failingFollower : List HeldWrite → Option FailingEntry
  | [] => none
  | f1 :: rest =>
    if runsPast f1.offset f1.data then some .follower1
    else match rest with
      | [] => none
      | f2 :: _ => if runsPast f2.offset f2.data then some .follower2 else none

/-- Validation of the staged offset against a record's writes: the first entry that fails, and its field (R157). -/
def validate (offset : Byte) (first : HeldWrite) (followers : List HeldWrite) :
    Option (FailingEntry × FailingField) :=
  if runsPast offset first.data then some (.first, .offset)
  else (failingFollower followers).map fun f => (f, .range)

/-- The edit applied to a record's writes (R156). -/
def edited (page : PageId) (offset : Byte) (first : HeldWrite) (followers : List HeldWrite) : List HeldWrite :=
  { first with page := page, offset := offset } :: followers.map fun f => { f with page := page }

/-- REWRITE in REJOIN or RUN (R156, R157). -/
def rewrite (s : State) : State :=
  match s.faults with
  | [] => reply .empty [] s
  | .format _ _ _ _ :: _ => reply .invalid [] s
  | .writeFailed _ first followers :: rest =>
    match validate s.editOffset first followers with
    | some (entry, field) => reply .badEdit [] (pushFault (.format entry field s.editPage s.editOffset) s)
    | none => putBackAll (edited s.editPage s.editOffset first followers) rest s

/-- REWRITE (R156). -/
def execRewrite (s : State) : Host.Outcome State Fault Refusal := .next (localCommand rewrite s)

end Sys2Proof.Machine
end

