-- ==== Sys2Proof/Machine/FrameCore.lean ====
section
/-! DEFINITION. What a station places in each field of a frame, from its record and its slot as it stands (R44): void, presence, fill, holder byte, accept, source, drop, bid, answer bytes, ACK, HOLD, winner ACK. And the record's small changes. -/

namespace Sys2Proof.Machine

/-- The station's own number (R162). -/
def State.number (s : State) : StationNo := s.straps.number

/-- The station takes part in the bus: it is in REJOIN or RUN (R22, R165). -/
def State.onBus (s : State) : Bool := s.station == .rejoin || s.station == .run

/-- Change the record of the frame in progress. -/
def modifyFrame (f : FrameRecord → FrameRecord) (s : State) : State := { s with frame := s.frame.map f }

/-- The state with a record of the frame in progress. -/
def State.withRecord (s : State) (r : FrameRecord) : State := { s with frame := some r }

/-- The slot of record as it stands (R44); a station without a slot sees a FREE one. -/
def slotOfRecord (r : FrameRecord) (s : State) : Slot :=
  match r.slot with
  | some i => s.slot i
  | none => Slot.freed

/-- The station is an originator of the frame, or still an opener of it. -/
def FrameRecord.opened (r : FrameRecord) : Bool := r.part == .opener || r.part == .originator

/-- The station is the originator. -/
def FrameRecord.originates (r : FrameRecord) : Bool := r.part == .originator

/-- The station is a participant. -/
def FrameRecord.participates (r : FrameRecord) : Bool := r.part == .participant

/-- This station is the holder (R52). -/
def FrameRecord.holds (r : FrameRecord) : Bool := r.contest == .won

/-- The kinds in which a mirror that fills is promoted (R49, R51). -/
def promotes (k : Kind) : Bool := k == .claim || k == .write || k == .read || k == .resync

/-- Whether the station's slot drives the presence bit (the table of R49). -/
def drivesPresence (k : Kind) (r : FrameRecord) (s : State) : Bool :=
  let st := (slotOfRecord r s).state
  match k with
  | .verify | .resync | .read => r.participates && st == .primary
  | .repair | .offer | .write => st == .primary
  | .claim => r.participates && (st == .primary || st == .doubt)
  | .release => st == .primary && (r.modeRelease || r.participates)

/-- Whether the station's slot drives the fill bit (the table of R49, R50). -/
def drivesFill (k : Kind) (r : FrameRecord) (s : State) : Bool :=
  let slot := slotOfRecord r s
  !r.presence && slot.state == .mirror &&
  match k with
  | .verify => r.participates && slot.partner == some r.originator
  | .resync | .claim | .read => r.participates
  | .write => true
  | .repair | .release | .offer => false

/-- Whether the holder of a RESYNC drives the accept bit (R123). -/
def drivesAccept (r : FrameRecord) (s : State) : Bool :=
  let slot := slotOfRecord r s
  r.holds && slot.state == .primary && (slot.partner == none || slot.partner == some r.originator)

/-- Whether the station drives the source bit of a REPAIR (R127). -/
def drivesSource (r : FrameRecord) (s : State) : Bool :=
  let slot := slotOfRecord r s
  r.participates && r.holder == some r.originator && slot.state == .mirror
    && slot.partner == some r.originator && slot.version == r.reqVersion

/-- Whether the station drives the drop bit of a RELEASE (R68, R70). -/
def drivesDrop (r : FrameRecord) (s : State) : Bool :=
  let slot := slotOfRecord r s
  r.participates && slot.partner == some r.originator &&
  if r.modeRelease then r.contest != .lost && (slot.state == .mirror || slot.state == .stale)
  else r.holds && slot.state == .primary

/-- Whether a MIRROR meets the conditions of the ACK bit (R86). -/
def meetsAck (r : FrameRecord) (s : State) : Bool :=
  let slot := slotOfRecord r s
  r.readApplied && r.contest != .lost && slot.state == .mirror && r.holder.isSome
    && slot.partner == r.holder && r.answerCheck == some true
    && slot.version != Config.wornVersion && r.announced == slot.version + 1 && !s.prot

/-- Whether the station drives the HOLD bit (R87). A slot turned STALE while its ACK write waited drives it too (log 44). -/
def drivesHold (r : FrameRecord) (s : State) : Bool :=
  let slot := slotOfRecord r s
  r.readApplied && r.contest == .notDriving && r.holder.isSome && slot.partner == r.holder
    && ((slot.state == .mirror && !r.mirrorApply) || slot.state == .stale)

/-- Whether the station pulls PBD low in the bit that comes next. -/
def ownBit (r : FrameRecord) (s : State) : Bool :=
  match r.point, r.kind with
  | .void, some _ => r.participates && !r.checkGood
  | .presence, some k => drivesPresence k r s
  | .fill, some k => drivesFill k r s
  | .accept, _ => drivesAccept r s
  | .source, _ => drivesSource r s
  | .drop, _ => drivesDrop r s
  | .ack, _ => r.mirrorApply
  | .hold, _ => drivesHold r s
  | .winnerAck, _ => r.incoming.isSome && r.load == .requested
  | _, _ => false

/-- The byte the station places in the byte field in progress; 0xFF where it places nothing, as a loser of its contest does
(R31, R53, R75). -/
def ownByte (r : FrameRecord) (s : State) : Byte :=
  match r.point with
  | .header | .page | .field | .check =>
    match r.part, s.own with
    | .opener, some own => own.request.getD r.request.length 0xFF
    | _, _ => 0xFF
  | .holder => if r.roleDrive = .none ∨ r.contest = .lost then 0xFF else 0#4 ++ s.number
  | .bid => if r.setAside.isSome then r.bid else 0xFF
  | .answer | .answerCheck => r.toSend.headD 0xFF
  | _ => 0xFF

/-- The field that comes next is a byte. -/
def Point.isByte : Point → Bool
  | .header | .page | .field | .check | .holder | .bid | .answer | .answerCheck => true
  | _ => false

/-- Whether the station pulls PBD low in the bit that comes next: a single bit, or the next bit of a byte (R24). -/
def drivesBit (r : FrameRecord) (s : State) : Bool :=
  if r.part = .onlooker then false
  else if r.point.isByte then !(ownByte r s).getLsbD (7 - r.bits.length)
  else ownBit r s

/-- Whether the station drives either bus line (R22, R38): it holds its own opening, it carries out a bus clear, it opens or
originates the frame in progress, it holds PBD for a bit, or it holds PBC to wait for the store. -/
def drivesLine (s : State) : Bool :=
  s.view == .opening || s.view == .clearing || s.arbiter.busyFor .frame ||
  match s.frame with
  | none => false
  | some r => r.opened || (if r.low then drivesBit r s else r.pbdHeld)

/-- The page a bid in progress holds here (R75, R134). -/
def bidPage (s : State) : Option PageId :=
  match s.frame with
  | some r => if r.setAside.isSome then r.page else none
  | none => none

/-- The slot set aside for a bid in progress (R3). -/
def slotSetAside (s : State) : Option SlotIx := s.frame.bind fun r => r.setAside

/-! ### Access requests of the frame -/

/-- The frame engine asks the store for an access for the frame in progress (R34, R102). -/
def requestForFrame (i : SlotIx) (k : AccessKind) (s : State) : State := request .frame ⟨i, k⟩ s

/-- The frame engine's own request has been granted or was never made: it does not wait at the arbiter. -/
def frameNotWaiting (s : State) : Bool := s.arbiter.frame.isNone

/-- The bytes this station sends from its snapshot (R76, R93, R124, R127). -/
def snapshotAnswer (r : FrameRecord) (i : SlotIx) (s : State) : List Byte :=
  match r.kind with
  | some .read =>
    withCheck ((if (s.slot i).damaged then 0x02 else 0x01) ::
      wordsBytes (((s.store.page i).drop r.reqOffset).take r.reqCount))
  | _ => withCheck (streamOf i s)

/-- The frame engine acts on the end of its access: a snapshot becomes the bytes to send; the other kinds need
nothing more (R56). -/
def frameAccessEnds (i : SlotIx) (k : AccessKind) (s : State) : State :=
  match k with
  | .snapshot => modifyFrame (fun r => { r with toSend := snapshotAnswer r i s }) s
  | _ => s

end Sys2Proof.Machine
end

