-- ==== Sys2Proof/Machine/StoreAccess.lean ====
section
/-! DEFINITION. The end of a store access (R103): the scrub unit's result (R108 to R110), the hand-over snapshot's (R92), the frame engine's and the local port's; then the next grant. And the wait of a stretched bit for the frame engine's own access (R34). -/

namespace Sys2Proof.Machine

/-- Whether a check step on slot `i` finds the words in agreement with the stored check (R107). -/
def scrubMatches (i : SlotIx) (s : State) : Bool :=
  pageCheck (s.slot i).version (s.store.page i) == (s.slot i).check

/-- The scrub unit reports a mismatch (R109, R110). -/
def reportDamage (s : State) : State := (s.setLatch .damage).accrue AccruedFlag.damage.mask

/-- The scrub unit acts on the end of a check step (R108): `page` is the page the slot held when it began. -/
def checkStepEnds (i : SlotIx) (page : Option PageId) (s : State) : State :=
  let r := s.slot i
  if scrubMatches i s || r.page != page then s
  else match r.state with
    | .mirror => reportDamage (becomeStale i r.partner s)
    | .primary => if r.damaged then s else reportDamage (markDamaged i s)
    | _ => s

/-- A READ entry served at its hand-over completes from the snapshot of slot `i`, with the snapshot's own damaged mark
(R101), where the slot still holds the page; a copy of a slot that does not is discarded (R92). -/
def handoverSnapshotEnds (i : SlotIx) (damaged : Bool) (s : State) : State :=
  match s.queue with
  | [] => s
  | e :: _ =>
    match e.body with
    | .read page offset count =>
      if holdsServing s i page then
        settleWithoutFrame (if damaged then .damaged else .ok) (some damaged)
          (((s.store.page i).drop offset.toNat).take count) s
      else s
    | _ => s

/-- The claimant of an access that has ended acts on it. -/
def claimantActs (a : Access) (s : State) : State :=
  if a.live then
    match a.claimant with
    | .frame => frameAccessEnds a.slot a.kind s
    | .handover => handoverSnapshotEnds a.slot a.damaged s
    | .port => portSnapshotEnds a.slot a.damaged s
    | .scrub => checkStepEnds a.slot a.page s
  else s

/-- The access in progress, if any, ends: its claimant acts on it, and the next waiting request is granted (R103). A request its
claimant makes in acting, as the local port does for its next part (R177), is in time for that grant (log 43). -/
def accessEnd (s : State) : State :=
  match s.arbiter.inProgress with
  | none => s
  | some a =>
    grantNext (claimantActs a (s.withArbiter { s.arbiter with inProgress := none }))

/-- The frame engine waits, with the clock stretched, until its own access has ended (R34): at most one access of
another claimant ends before it (R103). -/
def settle (s : State) : State :=
  if s.arbiter.busyFor .frame then
    let s := accessEnd s
    if s.arbiter.busyFor .frame then accessEnd s else s
  else s

end Sys2Proof.Machine
end

