-- ==== Sys2Proof/Machine/FrameEnd.lean ====
section
/-! DEFINITION. How a frame ends at a station: the closing of each kind and the settlement of its operation (R59, R63 to R70, R78, R87 to R90, R94, R120 to R122, R125, R128, R129), and the frames that break off or are abandoned on a stuck bus (R35, R36, R60). -/

namespace Sys2Proof.Machine

/-- Make a change to the slot of record, where there is one. -/
def onSlotOfRecord (r : FrameRecord) (f : SlotIx → State → State) (s : State) : State :=
  match r.slot with
  | some i => f i s
  | none => s

/-- The slot of the upkeep operation the frame belongs to, where it stands in the state expected. -/
def upkeepSlot (st : SlotState) (s : State) : Option SlotIx :=
  match s.own with
  | some ⟨.upkeep _ i, _⟩ => if (s.slot i).state = st then some i else none
  | _ => none

/-- A recovery frame of this station has failed: one attempt more on its slot (R16), its partner as it was, also after an
accepted RESYNC (R125, log 37). -/
def failTry (st : SlotState) (s : State) : State :=
  match upkeepSlot st s with
  | some i => failRecovery i s
  | none => s

/-- The upkeep operation the frame belongs to acts on its slot, where that stands in the state expected. -/
def onUpkeepSlot (st : SlotState) (f : SlotIx → State → State) (s : State) : State :=
  match upkeepSlot st s with
  | some i => f i s
  | none => s

/-! ### VERIFY -/

/-- REJOIN ends when no slot is DOUBT (R131). -/
def leaveRejoin (s : State) : State :=
  if s.station = .rejoin ∧ anyDoubt s = false then { s with station := .run } else s

/-- The decision of R120 for the DOUBT slot `i`, from a record whose frame reached one; flags are added before the
operation ends. -/
def verifyDecides (r : FrameRecord) (i : SlotIx) (s : State) : State :=
  let slot := s.slot i
  let s := match r.holder with
    | none => becomePrimary i slot.partner slot.damaged s
    | some h =>
      if r.presence then becomeStale i (some h) (addFlag .demoted s)
      else if slot.version < r.answerVersion then becomeStale i (some h) (addFlag .demoted s)
      else becomePrimary i (some h) slot.damaged
        (addFlagIf (decide (r.answerVersion < slot.version)) .staleMirror s)
  leaveRejoin (endUpkeep s)

/-- The originator's side of a VERIFY's closing (R120, R122). -/
def closeVerifyOriginator (r : FrameRecord) (s : State) : State :=
  if r.voidRead then failTry .doubt s
  else match r.holder with
    | none =>
      if r.presence || r.fill then failTry .doubt (addFlag .answerBad s)
      else onUpkeepSlot .doubt (verifyDecides r) s
    | some _ =>
      if r.answerCheck = some true then onUpkeepSlot .doubt (verifyDecides r) s
      else failTry .doubt s

/-- The filling mirror that won the holder byte of a VERIFY compares its version with the request's (R121). -/
def closeVerifyMirror (r : FrameRecord) (i : SlotIx) (s : State) : State :=
  let slot := s.slot i
  if r.roleDrive = .fill ∧ r.contest = .won ∧ slot.state = .mirror then
    if r.reqVersion < slot.version then reportRole true (becomePrimary i none slot.damaged s)
    else if slot.version < r.reqVersion then reportRole false (becomeStale i slot.partner s)
    else s
  else s

/-! ### RESYNC and REPAIR -/

/-- The originator's side of a RESYNC's closing (R125). -/
def closeResyncOriginator (r : FrameRecord) (s : State) : State :=
  if r.voidRead then failTry .stale s
  else match r.holder with
    | none =>
      if r.presence || r.fill then failTry .stale (addFlag .answerBad s)
      else onUpkeepSlot .stale spendRecovery (addFlag .noHolder s)
    | some h =>
      if !r.choice then onUpkeepSlot .stale (fun i s => endUpkeep (freeSlot i s)) (addFlag .refused s)
      else if r.answerCheck ≠ some true then failTry .stale s
      else if r.load = .requested then
        onUpkeepSlot .stale (fun i s => endUpkeep (becomeMirror i h s)) s
      else failTry .stale (addFlag .prot s)

/-- The originator's side of a REPAIR's closing (R128, R129). -/
def closeRepairOriginator (r : FrameRecord) (s : State) : State :=
  if r.voidRead then failTry .primary s
  else if r.contest = .lost then endUpkeep s
  else if !r.choice then failTry .primary s
  else if r.answerCheck ≠ some true ∨ r.answerVersion ≠ r.reqVersion then failTry .primary s
  else if r.load = .requested then onUpkeepSlot .primary (fun i s => endUpkeep (repaired i s)) s
  else failTry .primary (addFlag .prot s)

/-! ### CLAIM and RELEASE -/

/-- The claim is granted: presence, fill and the holder byte all read undriven (R63). -/
def FrameRecord.granted (r : FrameRecord) : Bool := !r.presence && !r.fill && r.holderByte == 0xFF

/-- The slot of a CLAIM entry of mode NEW. -/
def EntryBody.claimSlot : EntryBody → Option SlotIx
  | .claim _ .new slot => slot
  | _ => none

/-- The CLAIMING slot of the CLAIM NEW entry in flight, where it stands CLAIMING. -/
def claimingSlot (s : State) : Option SlotIx :=
  match (currentEntry s).bind fun e => e.body.claimSlot with
  | some i => if (s.slot i).state = .claiming then some i else none
  | none => none

/-- A granted CLAIM NEW whose slot was filled (R64). -/
def grantNew (s : State) : State :=
  match claimingSlot s with
  | some i => completeEntry .granted none none [] (becomePrimary i none false s)
  | none => completeEntry .granted none none [] s

/-- A granted CLAIM ADOPT (R65). -/
def grantAdopt (r : FrameRecord) (s : State) : State :=
  completeEntry .granted none none []
    (onSlotOfRecord r (fun i s => if (s.slot i).state = .stale then becomePrimary i none false s else s) s)

/-- The originator's side of a CLAIM's closing (R63 to R66). -/
def closeClaimOriginator (r : FrameRecord) (s : State) : State :=
  if r.voidRead then countAttempt .void s
  else if !r.granted then completeEntry .held r.holder none [] s
  else if !r.modeNew then grantAdopt r s
  else if r.load = .requested then grantNew s
  else completeEntry .prot none none [] (addFlag .prot s)

/-- The originator frees its slot where it still holds the page (R69, R70). -/
def giveUpPage (i : SlotIx) (s : State) : State :=
  let st := (s.slot i).state
  if st = .primary ∨ st = .mirror ∨ st = .stale then freeSlot i s else s

/-- The originator's side of a RELEASE's closing, in either mode (R69, R70). -/
def closeReleaseOriginator (r : FrameRecord) (s : State) : State :=
  if r.voidRead then countAttempt .void s
  else if r.modeRelease then
    if r.holder = some r.originator then
      completeEntry .released none none [] (onSlotOfRecord r giveUpPage s)
    else keepEntry s
  else
    completeEntry .left none none []
      (onSlotOfRecord r giveUpPage (addFlagIf r.holder.isNone .noHolder s))

/-- The other side of a RELEASE's closing: a copy that drove the drop bit is freed (R68); the holder of a LEAVE that
drove it clears its partner (R70). -/
def closeReleaseOther (r : FrameRecord) (i : SlotIx) (s : State) : State :=
  let st := (s.slot i).state
  if !r.choiceDriven then s
  else if r.modeRelease then
    if st = .mirror ∨ st = .stale then reportRole false (freeSlot i s) else s
  else if st = .primary then reportRole true (clearPartner i s) else s

/-! ### OFFER -/

/-- The end of an OFFER that found no mirror: seek due is cleared until the next tick, and the operation ends (R78). -/
def offerFails (s : State) : State := endUpkeep (onUpkeepSlot .primary clearSeek s)

/-- The originator's side of an OFFER's closing (R78). -/
def closeOfferOriginator (r : FrameRecord) (s : State) : State :=
  if r.voidRead then s
  else if r.holder ≠ some r.originator then endUpkeep s
  else if r.bidByte = 0xFF then offerFails (addFlag .noBidder s)
  else if r.ack then
    endUpkeep (onUpkeepSlot .primary (fun i => gainPartner i (r.bidByte.extractLsb' 0 4)) s)
  else offerFails (addFlag .noAck s)

/-- The winner's INCOMING slot is freed (R6, R77). -/
def dropIncoming (r : FrameRecord) (s : State) : State :=
  match r.incoming with
  | some i => if (s.slot i).state = .incoming then reportRole false (freeSlot i s) else s
  | none => s

/-- The winner's side of an OFFER's closing (R77). -/
def closeOfferWinner (r : FrameRecord) (s : State) : State :=
  match r.incoming with
  | some i =>
    if r.load = .requested ∧ (s.slot i).state = .incoming then
      reportRole false (becomeMirror i r.originator s)
    else dropIncoming r s
  | none => s

/-! ### WRITE and READ -/

/-- The copy's side of the closing of a WRITE that read APPLIED: a MIRROR that drove HOLD becomes STALE (R87), and so does one
that follows another station, whatever it judged of the answer check (R88, log 36). -/
def closeWriteMirror (r : FrameRecord) (i : SlotIx) (s : State) : State :=
  let slot := s.slot i
  if r.readApplied ∧ slot.state = .mirror ∧ r.contest = .notDriving ∧ r.holder.isSome then
    let notOriginator (s : State) : State := if r.originates then s else reportRole false s
    if slot.partner ≠ r.holder then notOriginator (becomeStale i r.holder s)
    else if r.holdDriven then notOriginator (becomeStale i slot.partner s)
    else s
  else s

/-- The holder's side of the closing of a WRITE it answered APPLIED: with neither ACK nor HOLD read, a partner is
cleared (R89). -/
def closeWriteHolder (r : FrameRecord) (i : SlotIx) (s : State) : State :=
  let slot := s.slot i
  if r.holds ∧ r.answeredApplied ∧ slot.state = .primary ∧ slot.partner.isSome ∧ r.ack = false ∧ r.hold = false then
    reportRole r.participates (clearPartner i s)
  else s

/-- The slot's side of the closing of a WRITE (R87 to R89). -/
def closeWriteSlot (r : FrameRecord) (s : State) : State :=
  onSlotOfRecord r (fun i s => closeWriteHolder r i (closeWriteMirror r i s)) s

/-- The flags an APPLIED write adds once its final bits are read (R90); TAKEOVER and DEMOTED are added at their bits. -/
def appliedFlags (r : FrameRecord) (s : State) : State :=
  addFlagIf (r.settledByte.any mirroredFlag && !r.ack && !r.hold) .unmirrored
    (addFlagIf r.hold .staleMirror s)

/-- The originator settles its WRITE from a status: one read with a good check, or its own (R90). -/
def settleWrite (st : BusStatus) (s : State) : State :=
  match st with
  | .applied => completeApplied s
  | .prot => completeEntry .prot none none [] (addFlag .prot s)
  | .worn => completeEntry .worn none none [] (addFlag .worn s)
  | .range => completeEntry .range none none [] s
  | _ => countAttempt .answerBad s

/-- The originator's side of a WRITE's closing (R90): one that is itself the holder goes by its own decision, with no check,
whatever another station drove into its answer (R85), but for one of two of the same number, which acts on what it read, a failed
check included (R33, R57, log 41). -/
def closeWriteOriginator (r : FrameRecord) (s : State) : State :=
  if r.voidRead then countAttempt .void s
  else match r.holder with
    | none => completeEntry .noHolder none none [] (addFlag .noHolder s)
    | some _ =>
      if r.answerCheck = some true then
        settleWrite r.settledStatus (if r.settledStatus = .applied then appliedFlags r s else s)
      else countAttempt .answerBad s

/-- The originator settles its READ from a status read with a good check (R94). -/
def settleRead (r : FrameRecord) (st : BusStatus) (s : State) : State :=
  match st with
  | .ok => completeEntry .ok none (some false) r.readWords s
  | .damaged => completeEntry .damaged none (some true) r.readWords (addFlag .damaged s)
  | .range => completeEntry .range none none [] s
  | _ => countAttempt .answerBad s

/-- The originator's side of a READ's closing (R94). -/
def closeReadOriginator (r : FrameRecord) (s : State) : State :=
  if r.voidRead then countAttempt .void s
  else match r.holder with
    | none => completeEntry .noHolder none none [] (addFlag .noHolder s)
    | some _ =>
      if r.answerCheck = some true then settleRead r ((r.statusByte.map readStatus).getD .unlisted) s
      else countAttempt .answerBad s

/-! ### The closing of any frame -/

/-- The originator's own side of a complete closing. -/
def closeOriginator (k : Kind) (r : FrameRecord) (s : State) : State :=
  match k with
  | .verify => closeVerifyOriginator r s
  | .resync => closeResyncOriginator r s
  | .repair => closeRepairOriginator r s
  | .claim => closeClaimOriginator r s
  | .release => closeReleaseOriginator r s
  | .offer => closeOfferOriginator r s
  | .write => closeWriteOriginator r s
  | .read => closeReadOriginator r s

/-- The slot changes a complete closing that is not void makes at a station from its slot of record. -/
def closeSlot (k : Kind) (r : FrameRecord) (s : State) : State :=
  match k with
  | .verify => if r.participates then onSlotOfRecord r (closeVerifyMirror r) s else s
  | .release => if r.participates then onSlotOfRecord r (closeReleaseOther r) s else s
  | .offer => if r.participates then closeOfferWinner r s else s
  | .write => closeWriteSlot r s
  | .resync | .repair | .claim | .read => s

/-- A complete closing (R59): the slot changes of the kind, then the settlement of the originator's operation. A void
frame changes no slot (R48). -/
def closeFrame (k : Kind) (r : FrameRecord) (s : State) : State :=
  let s := if r.voidRead then s else closeSlot k r s
  if r.originates then closeOriginator k r s else s

/-! ### Frames that do not close -/

/-- The originator of a WRITE goes by its own decision: it holds the page and is alone in its frame (R85, R90), or is one of two of
the same number and has read no status byte yet to act on (R33, log 41). -/
def FrameRecord.decidesItself (r : FrameRecord) : Bool := r.holds && (r.alone || r.statusByte.isNone)

/-- Whether the originator of a WRITE knows of the application when its frame breaks off: by its own decision it has decided APPLIED
and its access has begun (R84, R90); else it has read APPLIED (R33). A check it has found bad counts against it. -/
def knowsApplied (r : FrameRecord) (s : State) : Bool :=
  (if r.decidesItself then r.answeredApplied && frameNotWaiting s else r.readApplied) && r.answerCheck != some false

/-- Every field of the frame is read (R58, R59). -/
def FrameRecord.fieldsDone (r : FrameRecord) : Bool := r.point == .over || r.point == .past

/-- The cause of a counted try: the VOID or ANSWERBAD already reached, or else the break-off's own (log 15); an unlisted status
counts from the answer check on (log 39). -/
def breakCause (r : FrameRecord) (c : Code) : Code :=
  if r.voidRead then .void else if r.answerCheck = some false then .answerBad else c

/-- The originator's WRITE breaks off (R90): an outcome already reached stands. The final-bit flags are added where
the frame had reached the bits. -/
def breakWrite (r : FrameRecord) (c : Code) (s : State) : State :=
  if r.voidRead = false ∧ knowsApplied r s then
    completeApplied (if r.fieldsDone then appliedFlags r s else s)
  else if r.voidRead = false ∧ r.answerCheck = some true then settleWrite r.settledStatus s
  else countAttempt (breakCause r c) s

/-- The originator's READ breaks off (R94): one with a good answer check has completed. -/
def breakRead (r : FrameRecord) (c : Code) (s : State) : State :=
  if r.voidRead = false ∧ r.answerCheck = some true then
    settleRead r ((r.statusByte.map readStatus).getD .unlisted) s
  else countAttempt (breakCause r c) s

/-- The operation of a frame of this station that broke off or was abandoned (R60, R66, R69, R78, R122, R125, R129). An OFFER
already void leaves seek due and its operation as they were, with both flags (log 15); a failed RESYNC leaves the recorded
partner (log 37); a REPAIR that lost its slot has ended with the demotion. -/
def breakOperation (op : OpRef) (r : FrameRecord) (c : Code) (s : State) : State :=
  match op with
  | .upkeep .verify _ => failTry .doubt s
  | .upkeep .resync _ => failTry .stale s
  | .upkeep .repair _ => if r.contest = .lost then endUpkeep s else failTry .primary s
  | .upkeep .offer _ => if r.voidRead then s else offerFails s
  | .upkeep _ _ => s
  | .entry =>
    match r.kind with
    | some .write => breakWrite r c s
    | some .read => breakRead r c s
    | _ => countAttempt (breakCause r c) s

/-- The flag and the cause of a frame that does not close: BROKEN, or TIMEOUT on a stuck bus (R35, R36). -/
def breakFlag (stuckBus : Bool) : Flag := if stuckBus then .timeout else .broken

/-- The cause that goes with the flag. -/
def breakCode (stuckBus : Bool) : Code := if stuckBus then .timeout else .broken

/-- A frame that does not close, at a station that opened or originated it or took part in it (R60). -/
def breakFrame (stuckBus : Bool) (r : FrameRecord) (s : State) : State :=
  let s := dropIncoming r s
  match s.own with
  | some own =>
    if r.opened then breakOperation own.op r (breakCode stuckBus) (addFlag (breakFlag stuckBus) s) else s
  | none => s

/-! ### The end of the record -/

/-- How a frame ends at a station. -/
inductive FrameEnding where
  | complete | broken | stuck
  deriving DecidableEq, Repr

/-- What the ending does to slots and operations; an onlooker makes no change (R45), and an originator that has begun its
closing has made its changes (R167, log 29). -/
def frameEffects (how : FrameEnding) (r : FrameRecord) (s : State) : State :=
  if r.part = .onlooker ∨ r.closed then s
  else match how, r.kind with
    | .complete, some k => closeFrame k r s
    | .complete, none => s
    | .broken, _ => breakFrame false r s
    | .stuck, _ => breakFrame true r s

/-- The view after a frame: WAITING again where it was joined from WAITING (R27, R40). -/
def viewAfter : View → View
  | .inFrame true => .waiting
  | _ => .quiet

/-- The line unit and the frame engine drop the frame: both lines released, the record discarded, a waiting request
withdrawn, the own-frame marker set at an originator whose header was complete (R29, R35, R42, R104, log 14). -/
def dropFrame (r : FrameRecord) (s : State) : State :=
  let s := withdraw .frame s
  { s with
    frame := none
    own := none
    marker := s.marker || (r.opened && r.kindCode.isSome)
    view := viewAfter s.view
    gap := 0 }

/-- The frame in progress ends. -/
def endFrame (how : FrameEnding) (s : State) : State :=
  match s.frame with
  | none => s
  | some r => dropFrame r (frameEffects how r s)

end Sys2Proof.Machine
end

