-- ==== Sys2Proof/Machine/FrameEngine.lean ====
section
/-! DEFINITION. The frame engine (03): the opening, the low phase in which a station decides and asks for the store, the bits of a frame, alone or in bytes, and the change each makes at its bit, the closing, and the row a frame belongs to. -/

namespace Sys2Proof.Machine

/-! ### The low phase of a field (R24, R34) -/

/-- The status a WRITE holder decides at the first bit of its status byte, by the order of R83. -/
def decideWrite (r : FrameRecord) (slot : Slot) (prot : Bool) : BusStatus :=
  if r.pastPage then .range
  else if prot then .prot
  else if slot.version = Config.wornVersion then .worn
  else .applied

/-- The WRITE holder decides, and for APPLIED asks for its word write (R83 to R85). -/
def writeHolderBegins (r : FrameRecord) (i : SlotIx) (s : State) : State :=
  let slot := s.slot i
  let st := decideWrite r slot s.prot
  let b := writeStatusByte st slot.partner.isSome
  let v := slot.version + 1
  if st = .applied then
    requestForFrame i (.wordWrite r.reqOffset r.reqWords v)
      (modifyFrame (fun r => { r with status := some b, toSend := withCheck (b :: versionBytes v) }) s)
  else modifyFrame (fun r => { r with status := some b, toSend := withCheck [b] }) s

/-- The READ holder answers RANGE, or takes its snapshot (R93). -/
def readHolderBegins (r : FrameRecord) (i : SlotIx) (s : State) : State :=
  if r.pastPage then modifyFrame (fun r => { r with toSend := withCheck [0x04] }) s
  else requestForFrame i .snapshot s

/-- The VERIFY holder sends its version (R119). -/
def verifyHolderBegins (i : SlotIx) (s : State) : State :=
  modifyFrame (fun r => { r with toSend := withCheck (versionBytes (s.slot i).version) }) s

/-- The first bit of the answer's bytes: the station that sends them prepares them (R56). -/
def answerBegins (k : Kind) (r : FrameRecord) (s : State) : State :=
  match k with
  | .verify => if r.holds then onSlotOfRecord r verifyHolderBegins s else s
  | .resync | .repair =>
    if r.choiceDriven then onSlotOfRecord r (fun i => requestForFrame i .snapshot) s else s
  | .offer => if r.originates then onSlotOfRecord r (fun i => requestForFrame i .snapshot) s else s
  | .write => if r.holds then onSlotOfRecord r (writeHolderBegins r) s else s
  | .read => if r.holds then onSlotOfRecord r (readHolderBegins r) s else s
  | .claim | .release => s

/-- The lowest-indexed FREE slot (R3). -/
def firstFree (s : State) : Option SlotIx := firstSlot s fun r => r.state == .free

/-- The bid of a station with `f` FREE slots and number `n` (R75). -/
def bidOf (f : Nat) (n : StationNo) : Byte := BitVec.ofNat 4 (15 - min f 15) ++ n

/-- The station may bid (R74); a station with a slot for the page has it in its record's lookup or found it since. -/
def eligible (r : FrameRecord) (s : State) : Bool :=
  s.straps.mh && s.station == .run && (firstFree s).isSome && !s.prot && r.participates
    && r.contest == .notDriving && r.holder == some r.originator
    && (match r.page with
      | some p => (lookup s p).isNone
      | none => false)

/-- The bid byte begins: an eligible station computes its bid and sets a slot aside (R3, R75). -/
def bidBegins (r : FrameRecord) (s : State) : State :=
  if eligible r s then
    modifyFrame (fun r => { r with setAside := firstFree s, bid := bidOf (freeSlots s) s.number }) s
  else s

/-- The ACK bit begins: a mirror that meets R86 asks for its word write, which is made though a check step that ends before its
grant turns the slot STALE (R101, log 44). -/
def ackBegins (r : FrameRecord) (s : State) : State :=
  if meetsAck r s then
    onSlotOfRecord r (fun i => requestForFrame i (.wordWrite r.reqOffset r.reqWords r.announced))
      (modifyFrame (fun r => { r with mirrorApply := true }) s)
  else s

/-- The winner ACK bit begins: the bid winner judges its load and asks for it where it is good (R77). -/
def winnerAckBegins (r : FrameRecord) (s : State) : State :=
  match r.incoming with
  | none => s
  | some i =>
    if r.answerCheck = some true ∧ r.answerVersion = r.reqVersion ∧ s.prot = false
        ∧ (s.slot i).state = .incoming then
      requestForFrame i (.pageLoad r.answerVersion r.streamWords r.streamCheck)
        (modifyFrame (fun r => { r with load := .requested }) s)
    else s

/-- The originator of a RESYNC or REPAIR comes to its page load: made, or kept back under PROT (R124, R128). -/
def pageLoadBegins (st : SlotState) (r : FrameRecord) (s : State) : State :=
  match upkeepSlot st s with
  | none => s
  | some i =>
    if s.prot then modifyFrame (fun r => { r with load := .keptBack }) s
    else requestForFrame i (.pageLoad r.answerVersion r.streamWords r.streamCheck)
      (modifyFrame (fun r => { r with load := .requested }) s)

/-- The originator of a granted CLAIM NEW comes to its zero fill: made, or kept back under PROT (R64). -/
def zeroFillBegins (s : State) : State :=
  match claimingSlot s with
  | none => s
  | some i =>
    if s.prot then modifyFrame (fun r => { r with load := .keptBack }) s
    else requestForFrame i .zeroFill (modifyFrame (fun r => { r with load := .requested }) s)

/-- The originator begins the low phase before its closing: the access that must be made in it is asked for
(R64, R124, R128, R167). -/
def closingBegins (k : Kind) (r : FrameRecord) (s : State) : State :=
  if r.originates && !r.voidRead then
    match k with
    | .resync => if r.choice ∧ r.answerCheck = some true then pageLoadBegins .stale r s else s
    | .repair =>
      if r.choice ∧ r.answerCheck = some true ∧ r.answerVersion = r.reqVersion
      then pageLoadBegins .primary r s else s
    | .claim => if r.granted ∧ r.modeNew then zeroFillBegins s else s
    | _ => s
  else s

/-- The low phase of the next bit begins: the station lets go of PBD, decides what depends on this moment, and asks for the
store where the field waits for it, at the first bit of a byte (R34). -/
def lowPhase (s : State) : State :=
  match s.frame with
  | none => s
  | some r =>
    if r.low || r.part == .onlooker then s
    else
      let s := modifyFrame (fun r => { r with low := true, pbdHeld := false }) s
      if !r.bits.isEmpty then s
      else match r.kind with
        | none => s
        | some k =>
          match r.point with
          | .answer => if r.answer.isEmpty then answerBegins k r s else s
          | .bid => bidBegins r s
          | .ack => ackBegins r s
          | .winnerAck => winnerAckBegins r s
          | .over => closingBegins k r s
          | _ => s

/-- A bit is about to be sampled: its low phase has been, and the stretch for an access of this station's frame is
over (R34). -/
def ready (s : State) : State := settle (lowPhase s)

/-! ### Contests, bit by bit (R31, R53, R75) -/

/-- An opener that reads 0 where it placed 1 has lost arbitration: it gives up its frame and goes on as a participant (R31,
R32). -/
def loseFrame (s : State) : State :=
  loseArbitration (modifyFrame (fun r => { r with part := .participant }) s)

/-- The winner of the holder byte as far as its bits are read: a bit still to come counts as undriven (R53, log 40). -/
def FrameRecord.winner (r : FrameRecord) : StationNo := (byteOf r.bits).extractLsb' 0 4

/-- The slot of record, PRIMARY, has lost the holder contest: it becomes STALE behind the winner at that bit (R53). An
originator records DEMOTED, and its REPAIR ends with the demotion (R129); a REPAIR left open after an earlier try goes on
through a demotion in another station's frame (log 38). -/
def demoteLoser (r : FrameRecord) (i : SlotIx) (s : State) : State :=
  let s := modifyFrame (fun r => { r with demoted := true }) s
  let s := reportRole r.participates (becomeStale i (some r.winner) s)
  if r.originates then
    let s := addFlag .demoted s
    if r.kind = some .repair then endUpkeep s else s
  else s

/-- A driver of the holder byte that reads 0 where it placed 1 has lost and drives no further bit of the frame (R53); in a
CLAIM there is no demotion (R54). -/
def loseHolder (r : FrameRecord) (s : State) : State :=
  let s := modifyFrame (fun r => { r with contest := .lost }) s
  if r.kind = some .claim then s
  else onSlotOfRecord r (fun i s => if (s.slot i).state = .primary then demoteLoser r i s else s) s

/-- A demoted slot follows the winner's number as its further bits are read (R53, log 40). -/
def followWinner (r : FrameRecord) (s : State) : State :=
  if r.point = .holder ∧ r.demoted then
    onSlotOfRecord r (fun i s =>
      if (s.slot i).state = .stale then s.setSlot i { s.slot i with partner := some r.winner } else s) s
  else s

/-- The station has read 0 where it placed 1, or placed nothing: the contest it was in, if any, is lost (R31, R53, R75). -/
def loseContest (r : FrameRecord) (s : State) : State :=
  match r.point with
  | .header | .page | .field | .check => if r.part = .opener then loseFrame s else s
  | .holder => if r.roleDrive = .none ∨ r.contest = .lost then s else loseHolder r s
  | .bid => modifyFrame (fun r => { r with setAside := none }) s
  | _ => s

/-! ### The request part (R31, R43 to R47) -/

/-- The record after a field has been read: the next stands at `point`, and its low phase is still to come. -/
def FrameRecord.fieldDone (r : FrameRecord) (point : Point) : FrameRecord :=
  { r with point := point, low := false, bits := [] }

/-- The header is complete (R29, R43); a kind the part does not define makes every reader an onlooker (R46). -/
def headerRead (r : FrameRecord) (read : Byte) (s : State) : State :=
  let kind := read.extractLsb' 4 4
  let o := read.extractLsb' 0 4
  { s with
    marker := s.marker && o == s.number
    frame := some { r.fieldDone .page with
      part := if (Kind.ofCode kind).isSome then r.part else .onlooker
      kindCode := some kind, originator := o, request := [read] } }

/-- The page byte is complete: the slot for the page is looked up (R44). -/
def pageRead (r : FrameRecord) (read : Byte) (s : State) : State :=
  { s with frame := some { r.fieldDone .field with
      page := some read, slot := lookup s read, request := r.request ++ [read] } }

/-- A byte of the kind fields is complete; a value the kind does not define makes a participant an onlooker (R45). -/
def fieldRead (k : Kind) (r : FrameRecord) (read : Byte) (s : State) : State :=
  let request := r.request ++ [read]
  let next : Point := if request.length < requestLength k request then .field else .check
  { s with frame := some { r.fieldDone next with
      part := if malformed k request && r.participates then .onlooker else r.part, request := request } }

/-- The request check is complete: an opener that has not lost is the originator; every participant judges the check
(R31, R47). -/
def requestCheckRead (r : FrameRecord) (read : Byte) (s : State) : State :=
  { s with frame := some { r.fieldDone .void with
      part := if r.part = .opener then .originator else r.part
      checkGood := r.opened || crc8 r.request == read } }

/-! ### The role bits (R48 to R55) -/

/-- The void bit as read (R48): the originator records VOID. -/
def voidBit (r : FrameRecord) (read : Bool) (s : State) : State :=
  let s := addFlagIf (read && r.originates) .void s
  { s with frame := some { r.fieldDone (if read then .over else .presence) with voidRead := read } }

/-- The presence bit as read (R49). -/
def presenceBit (r : FrameRecord) (own read : Bool) (s : State) : State :=
  { s with frame := some { r.fieldDone .fill with
      presence := read, roleDrive := if own then .presence else .none } }

/-- A MIRROR that drove the fill bit in a kind that promotes becomes PRIMARY (R51). -/
def promoteAtFill (k : Kind) (r : FrameRecord) (own : Bool) (s : State) : State :=
  if own && promotes k then
    onSlotOfRecord r (fun i s =>
      if (s.slot i).state = .mirror then
        reportRole r.participates (becomePrimary i none (s.slot i).damaged s)
      else s) s
  else s

/-- The fill bit as read (R50): the originator of a kind that promotes records TAKEOVER. -/
def fillBit (k : Kind) (r : FrameRecord) (own read : Bool) (s : State) : State :=
  let s := addFlagIf (read && r.originates && promotes k) .takeover (promoteAtFill k r own s)
  { s with frame := some { r.fieldDone .holder with
      fill := read, roleDrive := if own then .fill else r.roleDrive } }

/-- Where the frame goes on after the holder byte (R55). -/
def afterHolder (k : Kind) (r : FrameRecord) (holder : Option StationNo) : Point :=
  match k with
  | .claim => .over
  | _ =>
    if holder.isNone then .over
    else match k with
      | .offer => if holder = some r.originator then .bid else .over
      | .release => if r.modeRelease ∧ holder ≠ some r.originator then .over else .drop
      | .resync => .accept
      | .repair => .source
      | _ => .answer

/-- The station the holder byte names (R52). -/
def holderOf (b : Byte) : Option StationNo := if b ≤ 0x0F then some (b.extractLsb' 0 4) else none

/-- The holder byte is complete (R52 to R55): a driver that has not lost has won. -/
def holderByteRead (k : Kind) (r : FrameRecord) (read : Byte) (s : State) : State :=
  let holder := holderOf read
  { s with frame := some { r.fieldDone (afterHolder k r holder) with
      holderByte := read, holder := holder,
      contest := if r.roleDrive = .none then .notDriving else if r.contest = .lost then .lost else .won } }

/-! ### The answer part (R56 to R58) -/

/-- The accept bit as read (R123): a holder that drives it takes the originator as its partner. -/
def acceptBit (r : FrameRecord) (own read : Bool) (s : State) : State :=
  let s := if own then onSlotOfRecord r (fun i s => reportRole false (gainPartner i r.originator s)) s else s
  { s with frame := some { r.fieldDone (if read then .answer else .over) with
      choice := read, choiceDriven := own } }

/-- The source bit as read (R127). -/
def sourceBit (r : FrameRecord) (own read : Bool) (s : State) : State :=
  { s with frame := some { r.fieldDone (if read then .answer else .over) with
      choice := read, choiceDriven := own } }

/-- The drop bit as read (R68, R70). -/
def dropBit (r : FrameRecord) (own read : Bool) (s : State) : State :=
  { s with frame := some { r.fieldDone .over with choice := read, choiceDriven := own } }

/-- A bid won reserves the slot set aside as INCOMING (R6, R75). -/
def winBid (r : FrameRecord) (s : State) : State :=
  match r.setAside, r.page with
  | some i, some p => reportRole false (becomeIncoming i p r.originator s)
  | _, _ => s

/-- The bid byte is complete: a bidder with its slot still set aside has won (R75). -/
def bidByteRead (r : FrameRecord) (read : Byte) (s : State) : State :=
  let s := winBid r s
  { s with frame := some { r.fieldDone (if read = 0xFF then .over else .answer) with
      bidByte := read, incoming := r.setAside, setAside := none } }

/-- Whether answer bytes come before the check after those read: a sender goes by the bytes it has still to place (R85), the
others by what they read. -/
def answerGoesOn (k : Kind) (r : FrameRecord) : Bool :=
  if r.toSend.isEmpty then r.answer.length < answerLength k r else 1 < r.toSend.length

/-- An answer byte is complete: every station keeps what it read, a sender too (R24, R33, log 34). -/
def answerByteRead (k : Kind) (r : FrameRecord) (read : Byte) (s : State) : State :=
  let r := { r with answer := r.answer ++ [read], toSend := r.toSend.tail }
  { s with frame := some (r.fieldDone (if answerGoesOn k r then .answer else .answerCheck)) }

/-- Where the frame goes on after the answer check (R58). -/
def afterAnswerCheck : Kind → Point
  | .write => .ack
  | .offer => .winnerAck
  | _ => .over

/-- The originator finds the answer bad: its check, a status its kind does not list (R185), or a REPAIR stream of
another version (R129). -/
def answerBad (k : Kind) (r : FrameRecord) (good : Bool) : Bool :=
  r.originates && (!good || (match k with
    | .write => r.settledStatus == .unlisted
    | .read => (r.statusByte.map readStatus).getD .unlisted == .unlisted
    | .repair => r.answerVersion != r.reqVersion
    | _ => false))

/-- The originator alone sends the answer: the holder of its own WRITE, or an OFFER's stream. It does not check it (R57, R76, R85);
one of two of the same number does (R33, log 41). -/
def FrameRecord.answersItself (r : FrameRecord) : Bool := r.originates && r.alone && !r.toSend.isEmpty

/-- The answer check is complete (R57): it is judged over the bytes as read (R33, log 34), but for an originator that sent them
itself (log 41). An originator that finds the answer bad records ANSWERBAD here (log 39). -/
def answerCheckRead (k : Kind) (r : FrameRecord) (read : Byte) (s : State) : State :=
  let good := r.answersItself || crc8 r.answer == read
  let s := addFlagIf (answerBad k r good) .answerBad s
  { s with frame := some { r.fieldDone (afterAnswerCheck k) with answerCheck := some good, toSend := [] } }

/-- The ACK bit as read (R86). -/
def ackBit (r : FrameRecord) (read : Bool) (s : State) : State :=
  { s with frame := some { r.fieldDone .hold with ack := read } }

/-- The HOLD bit as read (R87). -/
def holdBit (r : FrameRecord) (own read : Bool) (s : State) : State :=
  { s with frame := some { r.fieldDone .over with hold := read, holdDriven := own } }

/-- The winner ACK bit as read (R77, R78). -/
def winnerAckBit (r : FrameRecord) (read : Bool) (s : State) : State :=
  { s with frame := some { r.fieldDone .over with ack := read } }

/-! ### Events -/

/-- The byte in progress is complete. -/
def byteRead (read : Byte) (s : State) : State :=
  match s.frame with
  | none => s
  | some r =>
    match r.point, r.kind with
    | .header, _ => headerRead r read s
    | .page, _ => pageRead r read s
    | .field, some k => fieldRead k r read s
    | .check, _ => requestCheckRead r read s
    | .holder, some k => holderByteRead k r read s
    | .bid, _ => bidByteRead r read s
    | .answer, some k => answerByteRead k r read s
    | .answerCheck, some k => answerCheckRead k r read s
    | _, _ => s

/-- The record with one bit more of its byte read, driven by others and by this station or not: it reads the wired-AND (R22), and
an opener that drove it with no other is alone (R33). -/
def FrameRecord.sampled (r : FrameRecord) (others own : Bool) : FrameRecord :=
  { r with
    bits := r.bits ++ [!(own || others)], low := false, pbdHeld := own
    alone := r.alone || (own && !others && r.part == .opener) }

/-- A bit of a byte is complete (R24): it reads driven where this station or another drove it; a station that placed 1 and reads
0 loses its contest at this bit; the eighth bit completes the byte. -/
def byteBit (others : Bool) (r : FrameRecord) (s : State) : State :=
  let own := drivesBit r s
  let r := r.sampled others own
  let s := s.withRecord r
  let s := followWinner r (if others && !own then loseContest r s else s)
  if r.bits.length < 8 then s else byteRead (byteOf r.bits) s

/-- The originator makes the changes due at its closing (R167). -/
def makeClosing (k : Kind) (r : FrameRecord) (s : State) : State :=
  modifyFrame (fun r => { r with closed := true }) (closeFrame k r s)

/-- A bit after the point at which the frame is complete: from here on a closing is a break-off (R59). At an originator it is the
cycle of PBC of its own closing, whose changes it has made (R167, log 29). -/
def pastBit (k : Kind) (r : FrameRecord) (s : State) : State :=
  modifyFrame (fun r => { r.fieldDone .past with pbdHeld := false })
    (if r.originates ∧ r.closed = false then makeClosing k r s else s)

/-- A single bit is complete: it reads driven where this station or another drove it (R22). What this station places is taken
from its slot as it stands at the sampling, after the low phase and any stretch in it (R24, R44, log 42). -/
def singleBit (others : Bool) (r : FrameRecord) (s : State) : State :=
  let own := ownBit r s
  let read := own || others
  let r := { r with pbdHeld := own }
  match r.point, r.kind with
  | .void, _ => voidBit r read s
  | .presence, _ => presenceBit r own read s
  | .fill, some k => fillBit k r own read s
  | .accept, _ => acceptBit r own read s
  | .source, _ => sourceBit r own read s
  | .drop, _ => dropBit r own read s
  | .ack, _ => ackBit r read s
  | .hold, _ => holdBit r own read s
  | .winnerAck, _ => winnerAckBit r read s
  | .over, some k => pastBit k r s
  | .past, some k => pastBit k r s
  | _, _ => s

/-- A bit is complete, driven by another station or not, after its low phase and the stretch in it. -/
def bitComplete (others : Bool) (s : State) : State :=
  let s := ready s
  match s.frame with
  | none => s
  | some r => if r.point.isByte then byteBit others r s else singleBit others r s

/-- The bits of a byte are complete one after the other; `others` is what the other stations place in it. -/
def byteComplete (others : Byte) (s : State) : State :=
  (byteBits others).foldl (fun s read => bitComplete (!read) s) s

/-- The header's bits are complete; a header whose kind is not the row's is no event of the row (log 1). -/
def headerComplete (row : BitVec 4) (originator : StationNo) (s : State) : State :=
  let t := byteComplete (row ++ originator) s
  if (t.frame.bind (·.kindCode)) = some row then t else s

/-- The closing comes where the frame is complete: at `over`, or anywhere at an onlooker (R59). -/
def FrameRecord.completeHere (r : FrameRecord) : Bool := r.part == .onlooker || r.point == .over

/-- PBD rises with PBC high (R26): where the frame is complete that is its closing, after the low phase before it; anywhere else
the frame ends at once as broken off, and no bit has begun. -/
def closing (s : State) : State :=
  match s.frame with
  | none => s
  | some r => if r.completeHere then endFrame .complete (ready s) else endFrame .broken s

/-- The originator begins its closing where its frame is complete: it makes the changes due at it, after the access made in
the same low phase (R167). -/
def beginClosing (s : State) : State :=
  let t := ready s
  match t.frame, t.frame.bind (·.kind) with
  | some r, some k =>
    if r.originates ∧ r.point = .over ∧ r.closed = false then makeClosing k r t else s
  | _, _ => s

/-- A low level or a rise of PBD between frames restarts the gap count (R26, R28). -/
def lowLevel (s : State) : State :=
  if s.onBus then
    match s.view with
    | .waiting | .quiet | .stuck | .clearing => { s with gap := 0 }
    | .opening | .inFrame _ => s
  else s

/-- The frame's record is begun at an opening (R42). -/
def beginFrame (part : Part) (joinedWaiting : Bool) (s : State) : State :=
  { s with view := .inFrame joinedWaiting, gap := 0, frame := some (FrameRecord.begun part) }

/-- PBD falls with PBC high, or this station's own hold ends (R25, R27): a frame is opened, or one in progress breaks off
(R35). -/
def opening (s : State) : State :=
  if s.onBus then
    match s.view with
    | .opening => beginFrame .opener false s
    | .quiet => beginFrame .participant false s
    | .waiting => beginFrame .participant true s
    | .stuck | .clearing => lowLevel s
    | .inFrame _ => endFrame .broken s
  else s

/-- PBC falls with no frame in progress: an opener within its own hold joins the clock at once (R25); elsewhere it is a low
level between frames (R28). -/
def clockFalls (s : State) : State :=
  if s.onBus ∧ s.view = .opening then lowPhase (beginFrame .opener false s) else lowLevel s

/-- An event belongs to the frame in progress when the kind read, if any, is the row's. -/
def FrameRecord.fits (row : BitVec 4) (r : FrameRecord) : Bool := r.kindCode.all (· == row)

/-- The frame stands before a byte after its header, none of its bits read, in the station's reading of it; after its end any
eight bits are one. -/
def FrameRecord.beforeByte (r : FrameRecord) : Bool :=
  r.part != .onlooker && (r.point.isByte || r.fieldsDone) && r.point != .header && r.bits.isEmpty

/-- The frame stands before its header, none of its bits read. -/
def FrameRecord.beforeHeader (r : FrameRecord) : Bool :=
  r.part != .onlooker && r.point == .header && r.bits.isEmpty

/-- The frame has a bit to come in the station's reading of it, of a byte, alone, or after its end (R59). -/
def FrameRecord.beforeBit (r : FrameRecord) : Bool := r.part != .onlooker

/-- An event met inside a frame of the row's kind; one that does not fit where the frame stands changes nothing (log 1). -/
def insideFrame (row : BitVec 4) (r : FrameRecord) (s : State) (e : FrameEvent) : State :=
  match e with
  | .opening => s
  | .low => lowPhase s
  | .header o => if r.beforeHeader then headerComplete row o s else s
  | .byte b => if r.beforeByte then byteComplete b s else s
  | .bit b => if r.beforeBit then bitComplete b s else s
  | .closingBegun => beginClosing s
  | .closing => closing s

/-- One event of a frame row: a fall of PBD with PBC high acts whatever frame is in progress; with none in progress, PBC falls
in the station's own hold or it is a level between frames (R25, R28). -/
def frameEvent (row : BitVec 4) (s : State) (e : FrameEvent) : State :=
  match e, s.frame with
  | .opening, _ => opening s
  | .low, none => clockFalls s
  | _, none => lowLevel s
  | e, some r => if r.fits row then insideFrame row r s e else s

/-- The events of a frame row, in order. -/
def frameEvents (row : BitVec 4) (es : List FrameEvent) (s : State) : State :=
  es.foldl (frameEvent row) s

/-- PROT as the row finds it (R111, log 12). -/
def readProt (prot : Bool) (s : State) : State := { s with prot := prot }

end Sys2Proof.Machine
end

