-- ==== Sys2Proof/Machine/Frames.lean ====
section
/-! DEFINITION. The nine frame rows: each runs its events against the station (R118, R123, R127, R63, R67, R72, R81, R93, R46). -/

namespace Sys2Proof.Machine

/-- VERIFY_FRAME (R118 to R122). -/
def execVerifyFrame (events : List FrameEvent) (s : State) : Host.Outcome State Fault Refusal :=
  .next (frameEvents Kind.verify.code events s)

/-- RESYNC_FRAME (R123 to R126). -/
def execResyncFrame (prot : Bool) (events : List FrameEvent) (s : State) : Host.Outcome State Fault Refusal :=
  .next (frameEvents Kind.resync.code events (readProt prot s))

/-- REPAIR_FRAME (R127 to R129). -/
def execRepairFrame (prot : Bool) (events : List FrameEvent) (s : State) : Host.Outcome State Fault Refusal :=
  .next (frameEvents Kind.repair.code events (readProt prot s))

/-- CLAIM_FRAME (R61 to R66). -/
def execClaimFrame (prot : Bool) (events : List FrameEvent) (s : State) : Host.Outcome State Fault Refusal :=
  .next (frameEvents Kind.claim.code events (readProt prot s))

/-- RELEASE_FRAME (R67 to R71). -/
def execReleaseFrame (events : List FrameEvent) (s : State) : Host.Outcome State Fault Refusal :=
  .next (frameEvents Kind.release.code events s)

/-- OFFER_FRAME (R72 to R78). -/
def execOfferFrame (prot : Bool) (events : List FrameEvent) (s : State) : Host.Outcome State Fault Refusal :=
  .next (frameEvents Kind.offer.code events (readProt prot s))

/-- WRITE_FRAME (R80 to R91). -/
def execWriteFrame (prot : Bool) (events : List FrameEvent) (s : State) : Host.Outcome State Fault Refusal :=
  .next (frameEvents Kind.write.code events (readProt prot s))

/-- READ_FRAME (R92 to R94). -/
def execReadFrame (events : List FrameEvent) (s : State) : Host.Outcome State Fault Refusal :=
  .next (frameEvents Kind.read.code events s)

/-- UNDEFINED_KIND_FRAME (R46): kinds 8 to 15. -/
def execUndefinedKindFrame (kindLow : BitVec 3) (events : List FrameEvent) (s : State) :
    Host.Outcome State Fault Refusal :=
  .next (frameEvents (1#1 ++ kindLow) events s)

end Sys2Proof.Machine
end

