-- ==== Sys2Proof/Machine/Line.lean ====
section
/-! DEFINITION. The line unit's own rows (02): the quiet after a start, break-off, the stuck bus, levels between frames, and BUS CLEAR with its end. -/

namespace Sys2Proof.Machine

/-- WAITING_QUIET_REACHED (R40): in WAITING, both lines have been high for 24 bit times. -/
def waitingQuiet (s : State) : State :=
  if s.onBus ∧ s.view = .waiting then { s with view := .quiet, gap := Config.ownGap } else s

/-- WAITING_QUIET_REACHED (R40). -/
def execWaitingQuietReached (s : State) : Host.Outcome State Fault Refusal := .next (waitingQuiet s)

/-- The gap count after a break-off (R28): PBD fell, or it counts since both lines were high. -/
def BreakCause.gapAfter : BreakCause → Nat
  | .clockHigh gap => gap
  | .dataFall => 0

/-- A frame in progress breaks off (R35). -/
def breakOff (cause : BreakCause) (s : State) : State :=
  if s.frame.isSome then { endFrame .broken s with gap := BreakCause.gapAfter cause } else s

/-- BREAK_OFF (R35). -/
def execBreakOff (cause : BreakCause) (s : State) : Host.Outcome State Fault Refusal :=
  .next (breakOff cause s)

/-- The views in which a stuck bus is detected (R36). -/
def View.seesStuck : View → Bool
  | .waiting | .quiet | .inFrame _ => true
  | .opening | .stuck | .clearing => false

/-- Whether the station takes the bus to be stuck now (R36): in one of those views, or in STUCK where a bus clear left it with a
line low and the stuck count from zero, once (R39). -/
def detectsStuck (s : State) : Bool :=
  s.onBus && (s.view.seesStuck || (s.view == .stuck && decide (s.stuck ≤ Config.stuckLimit)))

/-- The bus is stuck in the station's view (R36). -/
def stuckBus (s : State) : State :=
  if detectsStuck s then
    ({ endFrame .stuck s with view := .stuck, gap := 0, stuck := Config.stuckLimit + 1 }).setLatch .link
  else s

/-- STUCK_BUS (R36). -/
def execStuckBus (s : State) : Host.Outcome State Fault Refusal := .next (stuckBus s)

/-- In STUCK, both lines read high (R27, R36). -/
def stuckReleased (s : State) : State :=
  if s.view = .stuck then { s with view := .quiet, gap := 0, stuck := 0 } else s

/-- STUCK_RELEASED (R27). -/
def execStuckReleased (s : State) : Host.Outcome State Fault Refusal := .next (stuckReleased s)

/-- LOW_LEVEL_BETWEEN_FRAMES (R26, R28). -/
def execLowLevelBetweenFrames (s : State) : Host.Outcome State Fault Refusal := .next (lowLevel s)

/-! ### BUS CLEAR -/

/-- The clear begins (R38): a frame in progress is dropped as broken off. -/
def beginClear (s : State) : State :=
  modifyTxn (fun t => { t with taken := true, awaitingClear := true, fillerBegun := true })
    { endFrame .broken s with view := .clearing, gap := 0, stuck := 0 }

/-- BUS CLEAR as it takes effect in REJOIN or RUN (R38). -/
def busClear (s : State) : State :=
  if s.view = .clearing ∨ drivesLine s then reply .busy [] s else beginClear s

/-- BUS_CLEAR (R38). -/
def execBusClear (s : State) : Host.Outcome State Fault Refusal := .next (localCommand busClear s)

/-- How the pulses of a clear end (R38, steps 1 and 2): with PBD high, stuck, or not yet. -/
inductive PulseEnd where
  | pbdHigh | stillStuck | unfinished
  deriving DecidableEq, Repr

/-- The pulses given while PBD reads low, at most `n` more (R38, steps 1 and 2). -/
def pulseEnd : Nat → List ClearPulse → PulseEnd
  | 0, _ => .stillStuck
  | _ + 1, [] => .unfinished
  | n + 1, p :: ps =>
    if !p.pbcRose then .stillStuck
    else if p.pbdHigh then .pbdHigh
    else pulseEnd n ps

/-- The result of a clear (R38): CLEARED, STILLSTUCK, or none where the readings stop short of an end. -/
def clearResult (run : ClearRun) : Option Status :=
  match if run.pbdHigh then PulseEnd.pbdHigh else pulseEnd Config.maxPulses run.pulses with
  | .pbdHigh => some (if run.pbcAfter && run.pbdAfter then .cleared else .stillStuck)
  | .stillStuck => some .stillStuck
  | .unfinished => none

/-- What the station drives low of the two lines in one phase of a clear. -/
structure LinePhase where
  pbc : Bool
  pbd : Bool
  deriving DecidableEq, Repr

/-- One pulse on PBC: pulled low for half a bit time, then released (R38, step 1). -/
def pulsePhases : List LinePhase := [⟨true, false⟩, ⟨false, false⟩]

/-- The closing of a clear: PBC pulled low, PBD pulled low, PBC released, PBD released (R38, step 3). -/
def closingPhases : List LinePhase := [⟨true, false⟩, ⟨true, true⟩, ⟨false, true⟩, ⟨false, false⟩]

/-- The pulses given while PBD reads low, at most `n` more, and the closing once it reads high (R38, steps 1 to 3). -/
def pulsing : Nat → List ClearPulse → List LinePhase
  | 0, _ => []
  | _ + 1, [] => []
  | n + 1, p :: ps =>
    pulsePhases ++
      (if !p.pbcRose then [] else if p.pbdHigh then closingPhases else pulsing n ps)

/-- The lines the station drives while it is CLEARING, phase by phase, from what it reads (R22, R38). -/
def clearingDrives (run : ClearRun) : List LinePhase :=
  if run.pbdHigh then closingPhases else pulsing Config.maxPulses run.pulses

/-- The clear has ended with a status (R39): the view, and the reply in the transaction that gave it. -/
def finishClear (status : Status) (bothHigh : Bool) (s : State) : State :=
  let s := { s with view := if bothHigh then .quiet else .stuck, gap := 0, stuck := 0 }
  modifyTxn (fun t =>
    if t.awaitingClear then { t with awaitingClear := false, ready := t.ready ++ [⟨status, [], false⟩] }
    else t) s

/-- The end of a clear in CLEARING (R39). -/
def busClearEnd (run : ClearRun) (s : State) : State :=
  if s.view = .clearing then
    match clearResult run with
    | some status => finishClear status (run.pbcAfter && run.pbdAfter) s
    | none => s
  else s

/-- BUS_CLEAR_END (R39). -/
def execBusClearEnd (run : ClearRun) (s : State) : Host.Outcome State Fault Refusal :=
  .next (busClearEnd run s)

end Sys2Proof.Machine
end

