-- ==== Sys2Proof/WellFormed.lean ====
section
/-! DEFINITION. Which commands are well formed: the operands a row of the table can carry. -/

namespace Sys2Proof

/-- The command codes of the local port (R172). -/
def commandCodes : List Byte :=
  [0x01, 0x10, 0x11, 0x12, 0x20, 0x21, 0x22, 0x28, 0x29, 0x2A, 0x30, 0x31, 0x32, 0x38, 0x39, 0x3A,
   0x3B, 0x3C, 0x40, 0x41, 0x42, 0x43, 0x44, 0x48, 0x49, 0x50, 0x51]

/-- The rest of a frame after its first event: no second opening, and nothing after the closing. -/
def frameTailOk : List FrameEvent → Bool
  | [] => true
  | .opening :: _ => false
  | .closing :: rest => rest.isEmpty
  | _ :: rest => frameTailOk rest

/-- The events of one frame or of a piece of one, from its opening to its closing at most (R41). -/
def frameEventsOk : List FrameEvent → Bool
  | .opening :: rest => frameTailOk rest
  | rest => frameTailOk rest

/-- A WRITE command has as many words as its count asks; one refused for its count has none that matter (R136, R172). -/
def writeOk (countLess1 : Byte) (words : List Word) : Bool :=
  decide (7 < countLess1.toNat) || words.length == countLess1.toNat + 1

/-- Well-formedness of a command. -/
def Instr.wellFormed : Instr → Bool
  | .supplyFall _ areas => decide (areas ≤ 64)
  | .verifyFrame ev | .resyncFrame _ ev | .repairFrame _ ev | .claimFrame _ ev | .releaseFrame ev
  | .offerFrame _ ev | .writeFrame _ ev | .readFrame ev | .undefinedKindFrame _ ev => frameEventsOk ev
  | .write _ _ c ws => writeOk c ws
  | .busClearEnd run => decide (run.pulses.length ≤ Config.maxPulses)
  | .unknownCommand code => !commandCodes.contains code
  | .start _ _ _ | .storeClearingEnd | .settleEnd | .waitingQuietReached | .frameOpportunity _ _
  | .breakOff _ | .stuckBus | .stuckReleased | .storeAccessEnd | .scrubTick | .seekTick
  | .transactionStart | .transactionEnd _ | .identify | .claim _ _ | .adopt _ _ | .release _
  | .read _ _ _ | .takeResult | .setPointer _ _ | .streamRead _ | .blockRead _ | .readOutcome
  | .readAccrued | .clearAccrued | .takeCause | .returnNotice | .setEnables _ | .readLatches
  | .clearLatches _ | .readFault | .editFault _ _ | .resume | .discard | .rewrite | .readSlot _
  | .queueState | .abandon | .busClear | .lowLevelBetweenFrames | .replyByteClockedOut _ => true

end Sys2Proof
end

