-- ==== Sys2Proof/Machine/LocalPort.lean ====
section
/-! DEFINITION. The local port's own rows (11): transactions, bytes clocked out, IDENTIFY, the stream pointer and its reads, READ SLOT, unknown commands. -/

namespace Sys2Proof.Machine

/-- SEL falls after being seen high (R168, R171). -/
def transactionStart (s : State) : State :=
  if s.station ≠ .retain ∧ s.selHigh ∧ s.txn = none then
    { s with selHigh := false, txn := some Transaction.begun, sdo := 0 }
  else s

/-- TRANSACTION_START (R168). -/
def execTransactionStart (s : State) : Host.Outcome State Fault Refusal := .next (transactionStart s)

/-- A transaction whose SEL rises is short where its command has not taken effect and SCK had an edge, as it had where bytes of
its command are in whole (R170). -/
def Transaction.isShort (t : Transaction) (sckEdge : Bool) : Bool := !t.taken && (sckEdge || decide (0 < t.received))

/-- SEL rises: the transaction ends; a waiting snapshot is withdrawn, one in progress is discarded, parts not yet begun
are not begun (R170, R171). -/
def transactionEnd (sckEdge : Bool) (s : State) : State :=
  if s.station = .retain then s
  else
    match s.txn with
    | none => { s with selHigh := true }
    | some t =>
      withdraw .port
        { s with selHigh := true, txn := none, sdo := 0, short := s.short || t.isShort sckEdge }

/-- TRANSACTION_END (R170). -/
def execTransactionEnd (sckEdge : Bool) (s : State) : Host.Outcome State Fault Refusal :=
  .next (transactionEnd sckEdge s)

/-- REPLY_BYTE_CLOCKED_OUT (R169, R170, R177). -/
def execReplyByteClockedOut (s : State) (sckHeld : Bool := false) : Host.Outcome State Fault Refusal :=
  .next (clockOut sckHeld s)

/-- IDENTIFY (R174): answered in every state from SETTLE on. -/
def execIdentify (s : State) : Host.Outcome State Fault Refusal :=
  .next (if canTake s then reply .ok (identifyData s) s else s)

/-- UNKNOWN_COMMAND (R172): a byte that names no command is answered UNKNOWN in every state from SETTLE on. -/
def execUnknownCommand (code : Byte) (s : State) : Host.Outcome State Fault Refusal :=
  .next (if canTake s && !commandCodes.contains code then reply .unknown [] s else s)

/-- SET POINTER in REJOIN or RUN (R175). -/
def setPointer (page : PageId) (word : Byte) (s : State) : State :=
  if 127 < word.toNat then reply .invalid [] s
  else reply .accepted [page, word]
    { s with pointerPage := page, pointerWord := word.extractLsb' 0 7 }

/-- SET_POINTER (R175). -/
def execSetPointer (page : PageId) (word : Byte) (s : State) : Host.Outcome State Fault Refusal :=
  .next (localCommand (setPointer page word) s)

/-- The parts of a run of `n` words from word `w` of page `p` (R175). -/
def streamParts (p : PageId) (w n : Nat) : List PartSpec :=
  if w + n ≤ Config.wordsPerPage then [⟨p, w, n, true⟩]
  else [⟨p, w, Config.wordsPerPage - w, true⟩, ⟨p + 1, 0, w + n - Config.wordsPerPage, true⟩]

/-- The stream pointer after a run of `n` words (R175). -/
def pointerAfter (p : PageId) (w n : Nat) : PageId × BitVec 7 :=
  if w + n ≤ 127 then (p, BitVec.ofNat 7 (w + n)) else (p + 1, BitVec.ofNat 7 (w + n - Config.wordsPerPage))

/-- STREAM READ in REJOIN or RUN (R175): the pointer is moved, and the parts fall due in turn. -/
def streamRead (countLess1 : Byte) (s : State) : State :=
  if 127 < countLess1.toNat then reply .invalid [] s
  else
    let n := countLess1.toNat + 1
    let p := s.pointerPage
    let w := s.pointerWord.toNat
    let (p', w') := pointerAfter p w n
    startParts (streamParts p w n) { s with pointerPage := p', pointerWord := w' }

/-- STREAM_READ (R175). -/
def execStreamRead (countLess1 : Byte) (s : State) : Host.Outcome State Fault Refusal :=
  .next (localCommand (streamRead countLess1) s)

/-- The parts of a BLOCK READ: `n` whole pages from `p` on, page 0 following page 255 (R176). -/
def blockParts (p : PageId) (n : Nat) : List PartSpec :=
  (List.range n).map fun k => ⟨p + BitVec.ofNat 8 k, 0, Config.wordsPerPage, true⟩

/-- BLOCK READ in REJOIN or RUN (R176). -/
def blockRead (c : Byte) (s : State) : State :=
  if 15 < c.toNat then reply .invalid [] s
  else
    let p := s.pointerPage
    startParts (blockParts p (c.toNat + 1)) { s with pointerPage := p + c + 1, pointerWord := 0 }

/-- BLOCK_READ (R176). -/
def execBlockRead (c : Byte) (s : State) : Host.Outcome State Fault Refusal :=
  .next (localCommand (blockRead c) s)

/-- READ SLOT in REJOIN or RUN (R178). -/
def readSlot (index : Byte) (s : State) : State :=
  if h : index.toNat < 64 then reply .ok (slotImage (s.slot ⟨index.toNat, h⟩)) s
  else reply .invalid [] s

/-- READ_SLOT (R178). -/
def execReadSlot (index : Byte) (s : State) : Host.Outcome State Fault Refusal :=
  .next (localCommand (readSlot index) s)

end Sys2Proof.Machine
end

