-- ==== Sys2Proof/Machine/Notices.lean ====
section
/-! DEFINITION. The notice unit's commands (R181, R182). -/

namespace Sys2Proof.Machine

/-- TAKE CAUSE in REJOIN or RUN (R181): the first latch set and enabled is cleared and named, and the master enable is
cleared; with none, the cause is NONE. -/
def takeCause (s : State) : State :=
  match firstCause s with
  | some l => reply .accepted [l.cause] { s with latches := s.latches &&& ~~~l.mask, master := false }
  | none => reply .accepted [0] s

/-- TAKE_CAUSE (R181). -/
def execTakeCause (s : State) : Host.Outcome State Fault Refusal := .next (localCommand takeCause s)

/-- RETURN (R181). -/
def execReturnNotice (s : State) : Host.Outcome State Fault Refusal :=
  .next (localCommand (fun s => reply .accepted [] { s with master := true }) s)

/-- The six bits of a byte that name latches (13.5). -/
def latchBits (b : Byte) : BitVec 6 := b.extractLsb' 0 6

/-- SET ENABLES in REJOIN or RUN (R182). -/
def setEnables (enables : Byte) (s : State) : State :=
  reply .accepted [sixFlags (latchBits enables)] { s with enables := latchBits enables }

/-- SET_ENABLES (R182). -/
def execSetEnables (enables : Byte) (s : State) : Host.Outcome State Fault Refusal :=
  .next (localCommand (setEnables enables) s)

/-- READ_LATCHES (R182). -/
def execReadLatches (s : State) : Host.Outcome State Fault Refusal :=
  .next (localCommand
    (fun s => reply .accepted [sixFlags s.latches, sixFlags s.enables, bitAt 0 s.master] s) s)

/-- CLEAR LATCHES in REJOIN or RUN (R182). -/
def clearLatches (mask : Byte) (s : State) : State :=
  reply .accepted [sixFlags s.latches] { s with latches := s.latches &&& ~~~latchBits mask }

/-- CLEAR_LATCHES (R182). -/
def execClearLatches (mask : Byte) (s : State) : Host.Outcome State Fault Refusal :=
  .next (localCommand (clearLatches mask) s)

end Sys2Proof.Machine
end

