-- ==== Sys2Proof/Machine/Requests.lean ====
section
/-! DEFINITION. The send queue's local commands: the five request commands and their tests (R133 to R137), TAKE RESULT (R143), QUEUE STATE (R144), ABANDON (R145), READ OUTCOME (R146), READ and CLEAR ACCRUED (R148). -/

namespace Sys2Proof.Machine

/-! ### The tests of R133 -/

/-- Test 4: the queue holds 8 entries. -/
def testFull (s : State) : Option Status := if queueFull s then some .full else none

/-- Test 5: the queue holds an entry other than a WRITE, or the result record is valid. -/
def testBusy (s : State) : Option Status :=
  if hasNonWrite s || s.result.isSome then some .busy else none

/-- Test 6: PROT reads high. -/
def testProt (s : State) : Option Status := if s.prot then some .prot else none

/-- The lowest-indexed FREE slot other than one set aside for a bid (R3, R134). -/
def freeForClaim (s : State) : Option SlotIx :=
  (List.finRange 64).find? fun i => (s.slot i).state == .free && slotSetAside s != some i

/-- Test 7: no FREE slot is available. -/
def testNoSlot (s : State) : Option Status := if (freeForClaim s).isNone then some .noSlot else none

/-- The page is held here (R134): in a slot that is not FREE, or by a bid in progress. -/
def heldHere (page : PageId) (s : State) : Bool := (lookup s page).isSome || bidPage s == some page

/-- Test 8: the page is held here. -/
def testHeldHere (page : PageId) (s : State) : Option Status :=
  if heldHere page s then some .heldHere else none

/-- The state of the station's slot for a page, FREE where it has none. -/
def stateFor (page : PageId) (s : State) : SlotState :=
  match lookup s page with
  | some i => (s.slot i).state
  | none => .free

/-- Test 9 of ADOPT: the slot for the page is not STALE. -/
def testStale (page : PageId) (s : State) : Option Status :=
  if stateFor page s = .stale then none else some .notHeld

/-- Test 9 of RELEASE: the slot for the page is not PRIMARY, MIRROR or STALE. -/
def testReleasable (page : PageId) (s : State) : Option Status :=
  match stateFor page s with
  | .primary | .mirror | .stale => none
  | _ => some .notHeld

/-- Test 2 of WRITE: an argument outside its range. -/
def testWriteRange (offset countLess1 : Byte) : Option Status :=
  if 127 < offset.toNat ∨ 7 < countLess1.toNat then some .invalid else none

/-- Test 2 of READ. -/
def testReadRange (offset countLess1 : Byte) : Option Status :=
  if 127 < offset.toNat ∨ 15 < countLess1.toNat then some .invalid else none

/-- The first test that holds decides (R133). -/
def firstRefusal (tests : List (Option Status)) : Option Status := tests.findSome? id

/-- The tests of CLAIM, in order. -/
def claimRefusal (page : PageId) (s : State) : Option Status :=
  firstRefusal [testFull s, testBusy s, testProt s, testNoSlot s, testHeldHere page s]

/-- The tests of ADOPT, in order. -/
def adoptRefusal (page : PageId) (s : State) : Option Status :=
  firstRefusal [testFull s, testBusy s, testProt s, testStale page s]

/-- The tests of RELEASE, in order. -/
def releaseRefusal (page : PageId) (s : State) : Option Status :=
  firstRefusal [testFull s, testBusy s, testReleasable page s]

/-- The tests of WRITE, in order. -/
def writeRefusal (offset countLess1 : Byte) (s : State) : Option Status :=
  firstRefusal [testWriteRange offset countLess1, testFull s]

/-- The tests of a READ that is not served at once, in order. -/
def readRefusal (s : State) : Option Status := firstRefusal [testFull s, testBusy s]

/-! ### Acceptance -/

/-- An accepted command joins the tail with the tag counter's value (R132, R133). -/
def accept (body : EntryBody) (s : State) : State :=
  reply .accepted [s.nextTag]
    { s with queue := s.queue ++ [⟨s.nextTag, body, 0, 0, false⟩], nextTag := s.nextTag + 1 }

/-- CLAIM in REJOIN or RUN (R134). -/
def claim (page : PageId) (s : State) : State :=
  match claimRefusal page s, freeForClaim s with
  | some st, _ => reply st [] s
  | none, some i => accept (.claim page .new (some i)) (becomeClaiming i page s)
  | none, none => reply .noSlot [] s

/-- ADOPT in REJOIN or RUN (R134). -/
def adopt (page : PageId) (s : State) : State :=
  match adoptRefusal page s with
  | some st => reply st [] s
  | none => accept (.claim page .adopt none) s

/-- RELEASE in REJOIN or RUN (R135). -/
def release (page : PageId) (s : State) : State :=
  match releaseRefusal page s with
  | some st => reply st [] s
  | none => accept (.release page) s

/-- WRITE in REJOIN or RUN (R136). -/
def writePage (page : PageId) (offset countLess1 : Byte) (words : List Word) (s : State) : State :=
  match writeRefusal offset countLess1 s with
  | some st => reply st [] s
  | none => accept (.write page offset (words.take (countLess1.toNat + 1))) s

/-- READ in REJOIN or RUN (R137): refused, served at once, or queued. -/
def readPage (page : PageId) (offset countLess1 : Byte) (s : State) : State :=
  let count := countLess1.toNat + 1
  match testReadRange offset countLess1 with
  | some st => reply st [] s
  | none =>
    if (stateFor page s).serves then
      if Config.wordsPerPage < offset.toNat + count then reply .range [] s
      else startParts [⟨page, offset.toNat, count, false⟩] s
    else match readRefusal s with
      | some st => reply st [] s
      | none => accept (.read page offset count) s

/-- CLAIM (R134). -/
def execClaim (page : PageId) (prot : Bool) (s : State) : Host.Outcome State Fault Refusal :=
  .next (localCommand (claim page) (readProt prot s))

/-- ADOPT (R134). -/
def execAdopt (page : PageId) (prot : Bool) (s : State) : Host.Outcome State Fault Refusal :=
  .next (localCommand (adopt page) (readProt prot s))

/-- RELEASE (R135). -/
def execRelease (page : PageId) (s : State) : Host.Outcome State Fault Refusal :=
  .next (localCommand (release page) s)

/-- A WRITE's words have all arrived, or its count is refused without them (R136, R172, log 32). -/
def writeArrived (countLess1 : Byte) (words : List Word) : Bool :=
  decide (7 < countLess1.toNat) || decide (countLess1.toNat + 1 ≤ words.length)

/-- WRITE (R136). -/
def execWrite (page : PageId) (offset countLess1 : Byte) (words : List Word) (s : State) :
    Host.Outcome State Fault Refusal :=
  .next (if writeArrived countLess1 words then localCommand (writePage page offset countLess1 words) s else s)

/-- READ (R137). -/
def execRead (page : PageId) (offset countLess1 : Byte) (s : State) : Host.Outcome State Fault Refusal :=
  .next (localCommand (readPage page offset countLess1) s)

/-! ### The result record and the queue -/

/-- TAKE RESULT in REJOIN or RUN (R143). -/
def takeResult (s : State) : State :=
  match s.result with
  | some r => reply .ok (resultImage r) { s with result := none }
  | none => reply .empty [] s

/-- TAKE_RESULT (R143). -/
def execTakeResult (s : State) : Host.Outcome State Fault Refusal := .next (localCommand takeResult s)

/-- QUEUE_STATE (R144). -/
def execQueueState (s : State) : Host.Outcome State Fault Refusal :=
  .next (localCommand (fun s => reply .ok (queueImage s) s) s)

/-- Each removed CLAIM NEW entry frees its CLAIMING slot; the outcome set and the accrued set are left as they are
(R145). -/
def removeEntries (es : List Entry) (s : State) : State := es.foldl (fun s e => freeClaim e s) s

/-- The entries ABANDON removes at once, and the one in flight, given up but left to its frame (R145). -/
def abandonQueue (s : State) : State :=
  match s.queue with
  | [] => s
  | e :: rest =>
    if e.inFlight then removeEntries rest { s with queue := [], abandoned := some e }
    else removeEntries (e :: rest) { s with queue := [] }

/-- ABANDON in REJOIN or RUN (R145): a hand-over snapshot waiting is withdrawn, one in progress is discarded (R92). -/
def abandon (s : State) : State :=
  reply .accepted [countByte s.queue.length] (abandonQueue (withdraw .handover s))

/-- ABANDON (R145). -/
def execAbandon (s : State) : Host.Outcome State Fault Refusal := .next (localCommand abandon s)

/-! ### Outcomes -/

/-- READ_OUTCOME (R146). -/
def execReadOutcome (s : State) : Host.Outcome State Fault Refusal :=
  .next (localCommand (fun s => reply .ok (outcomeImage s.outcome) s) s)

/-- READ_ACCRUED (R148). -/
def execReadAccrued (s : State) : Host.Outcome State Fault Refusal :=
  .next (localCommand (fun s => reply .ok [sixFlags s.accrued] s) s)

/-- CLEAR_ACCRUED (R148). -/
def execClearAccrued (s : State) : Host.Outcome State Fault Refusal :=
  .next (localCommand (fun s => reply .accepted [sixFlags s.accrued] { s with accrued := 0 }) s)

end Sys2Proof.Machine
end

