-- ==== Sys2Proof/Machine/Supply.lean ====
section
/-! DEFINITION. The supply monitor (10): supply fall and RST, the start, the end of the store's clearing and the end of SETTLE. -/

namespace Sys2Proof.Machine

/-- A slot with its volatile fields at their start values (R2). -/
def Slot.retained (r : Slot) : Slot := { r with seekDue := false, recoveryDue := false, attempts := 0 }

/-- The access in progress is complete (its change was made at its grant, log 5); every waiting request is withdrawn,
and all volatile state is lost, here at its start values (R160, log 9). -/
def loseVolatile (s : State) : State :=
  { State.reset with
    vddGood := s.vddGood, mark := s.mark, prot := s.prot,
    slots := mapSlots Slot.retained s.slots, store := s.store, pending := s.pending }

/-- VDD falls below its threshold or RST goes low (R160): the station enters RETAIN. A clearing under way stops
where it stands, after `areas` areas (R163). -/
def supplyFall (cause : FallCause) (areas : Nat) (s : State) : State :=
  let store := if s.clearing then s.store.clearAreas (min areas 64) else s.store
  { loseVolatile s with store := store, vddGood := s.vddGood && cause == .rstLow }

/-- SUPPLY_FALL (R160). -/
def execSupplyFall (cause : FallCause) (areasCleared : Nat) (s : State) : Host.Outcome State Fault Refusal :=
  .next (supplyFall cause areasCleared s)

/-- A slot at a warm start (R21, R164). -/
def Slot.warm (r : Slot) : Slot :=
  match r.state with
  | .free | .claiming | .incoming => Slot.freed
  | .primary | .doubt =>
    { r with state := .doubt, seekDue := false, recoveryDue := true, attempts := 0 }
  | .mirror | .stale =>
    { r with state := .stale, damaged := false, seekDue := false, recoveryDue := true, attempts := 0 }

/-- The start of either kind (R162): straps latched, mark read, SETTLE entered; a warm start changes the slots at once,
a cold one begins the clearing (R163, R164). -/
def startUp (straps : Straps) (selHigh vbatHeld : Bool) (s : State) : State :=
  let mark := s.mark && (s.vddGood || vbatHeld)
  { loseVolatile s with
    station := .settle
    straps := straps
    startKind := if mark then .warm else .cold
    clearing := !mark
    vddGood := true
    mark := mark
    selHigh := selHigh
    slots := mapSlots (if mark then Slot.warm else Slot.retained) s.slots }

/-- START (R162): only a station in RETAIN starts. -/
def execStart (straps : Straps) (selHigh vbatHeld : Bool) (s : State) : Host.Outcome State Fault Refusal :=
  .next (if s.station = .retain then startUp straps selHigh vbatHeld s else s)

/-- The cold start's clearing ends (R100, R163): every word 0x0000, every slot FREE, the mark written valid. -/
def storeClearingEnd (s : State) : State :=
  if s.station = .settle ∧ s.clearing then
    { s with store := [], slots := Vector.replicate 64 Slot.freed, clearing := false, mark := true }
  else s

/-- STORE_CLEARING_END (R100). -/
def execStoreClearingEnd (s : State) : Host.Outcome State Fault Refusal := .next (storeClearingEnd s)

/-- The settling time ends (R165, R131, R40): REJOIN where a slot is DOUBT, RUN where none is; the line unit is in
WAITING and POWER is set. -/
def settleEnd (s : State) : State :=
  if s.station = .settle ∧ s.clearing = false then
    ({ s with
      station := if anyDoubt s then .rejoin else .run
      view := .waiting, gap := 0, stuck := 0, marker := false }).setLatch .power
  else s

/-- SETTLE_END (R165). -/
def execSettleEnd (s : State) : Host.Outcome State Fault Refusal := .next (settleEnd s)

end Sys2Proof.Machine
end

