-- ==== Sys2Proof/Machine/Upkeep.lean ====
section
/-! DEFINITION. The upkeep scheduler (R114 to R117, R30), the hand-over tests of the queue's head (R61, R67, R92), the seek tick, the scrub tick (R106) and the end of a store access (R103). -/

namespace Sys2Proof.Machine

/-! ### The scheduler's choice (R115) -/

/-- What the scheduler chooses. -/
inductive Choice where
  | recovery (kind : Kind) (slot : SlotIx)
  | head (e : Entry)
  | offer (slot : SlotIx)
  | none
  deriving DecidableEq, Repr

/-- A slot due for VERIFY (R115, order 1). -/
def Slot.dueVerify (r : Slot) : Bool := r.state == .doubt && r.recoveryDue

/-- A slot due for RESYNC (R115, order 2). -/
def Slot.dueResync (r : Slot) : Bool := r.state == .stale && r.recoveryDue

/-- A slot due for REPAIR (R115, order 3). -/
def Slot.dueRepair (r : Slot) : Bool :=
  r.state == .primary && r.damaged && r.partner.isSome && r.recoveryDue

/-- A slot due for OFFER (R115, order 5). -/
def Slot.dueOffer (r : Slot) : Bool := r.state == .primary && r.seekDue

/-- The head the scheduler may hand over (R115, order 4; R151). -/
def readyHead (s : State) : Option Entry :=
  if !anyDoubt s && s.faults.isEmpty then s.queue.head? else none

/-- The scheduler's choices in order (R115, R112). -/
def choose (s : State) : Choice :=
  match firstSlot s Slot.dueVerify with
  | some i => .recovery .verify i
  | none =>
    match if s.prot then none else firstSlot s Slot.dueResync with
    | some i => .recovery .resync i
    | none =>
      match if s.prot then none else firstSlot s Slot.dueRepair with
      | some i => .recovery .repair i
      | none =>
        match readyHead s with
        | some e => .head e
        | none =>
          match firstSlot s Slot.dueOffer with
          | some i => .offer i
          | none => .none

/-! ### Opening a frame -/

/-- The line unit drives PBD for the opening of a frame (R25, R30). -/
def drive (op : OpRef) (request : List Byte) (s : State) : State :=
  { s with own := some ⟨op, request⟩, view := .opening, gap := 0 }

/-- The outcome set is given to an upkeep operation: the one in progress goes on, or it ends and another begins
(R116, R146). -/
def beginUpkeep (k : Kind) (i : SlotIx) (s : State) : State :=
  match s.upkeep with
  | some op =>
    if op.kind = k ∧ op.slot = i then { s with outcome := ⟨op.flags, some op.identity, false⟩ }
    else
      { endUpkeep s with
        upkeep := some ⟨k, i, 0⟩, outcome := ⟨0, some (UpkeepOp.identity ⟨k, i, 0⟩), false⟩ }
  | none =>
    { s with upkeep := some ⟨k, i, 0⟩, outcome := ⟨0, some (UpkeepOp.identity ⟨k, i, 0⟩), false⟩ }

/-- A VERIFY, RESYNC, REPAIR or OFFER for a slot is opened: its request carries the slot's page and version
(R72, R118, R123, R127). -/
def openUpkeep (k : Kind) (i : SlotIx) (s : State) : State :=
  let r := s.slot i
  drive (.upkeep k i) (requestBytes k s.number (r.page.getD 0) (versionBytes r.version))
    (beginUpkeep k i s)

/-- A frame for the head of the queue is opened: the head is in flight, and the outcome set takes its gathered flags
(R132, R146). Another operation's upkeep ends (R116). -/
def openEntry (e : Entry) (fields : List Byte) (s : State) : State :=
  let s := endUpkeep s
  drive .entry (requestBytes e.body.kind s.number e.body.page fields)
    { s with
      outcome := ⟨e.gathered, some e.identity, false⟩
      queue := match s.queue with
        | [] => []
        | e :: rest => { e with inFlight := true } :: rest }

/-! ### The hand-over of the head (R138) -/

/-- What the hand-over test of an entry answers. -/
inductive HandOver where
  /-- a frame with these kind fields -/
  | frame (fields : List Byte)
  /-- completed without a frame -/
  | settled (code : Code)
  /-- a READ served from a snapshot of this slot -/
  | snapshot (slot : SlotIx)
  deriving DecidableEq, Repr

/-- The state of the station's slot for a page, if it has one. -/
def pageState (s : State) (page : PageId) : Option SlotState := (lookup s page).map fun i => (s.slot i).state

/-- The test of a CLAIM entry (R61). -/
def handOverClaim (page : PageId) (mode : ClaimMode) (s : State) : HandOver :=
  if s.prot then .settled .prot
  else if mode = .adopt ∧ pageState s page ≠ some .stale then .settled .notHeld
  else .frame [mode.code]

/-- The test of a RELEASE entry, which decides its mode (R67). -/
def handOverRelease (page : PageId) (s : State) : HandOver :=
  match pageState s page with
  | some .primary => .frame [0x01]
  | some .mirror | some .stale => .frame [0x02]
  | _ => .settled .notHeld

/-- The test of a READ entry (R92). -/
def handOverRead (page : PageId) (offset : Byte) (count : Nat) (s : State) : HandOver :=
  match (lookup s page).filter fun i => (s.slot i).state.serves with
  | some i => if Config.wordsPerPage < offset.toNat + count then .settled .range else .snapshot i
  | none => .frame [offset, countByte (count - 1)]

/-- The test of an entry at its hand-over (R138); a WRITE has none. -/
def handOver (e : Entry) (s : State) : HandOver :=
  match e.body with
  | .write _ offset data => .frame (offset :: countByte (data.length - 1) :: wordsBytes data)
  | .read page offset count => handOverRead page offset count s
  | .claim page mode _ => handOverClaim page mode s
  | .release page => handOverRelease page s

/-- The scheduler is asked within one opportunity, at most `fuel` times more: it is asked again each time a hand-over
test completes an entry without a frame (R115). -/
def schedule : Nat → State → State
  | 0, s => s
  | fuel + 1, s =>
    match choose s with
    | .recovery k i => openUpkeep k i s
    | .offer i => openUpkeep .offer i s
    | .none => s
    | .head e =>
      match handOver e s with
      | .frame fields => openEntry e fields s
      | .snapshot i => request .handover ⟨i, .snapshot⟩ s
      | .settled code => schedule fuel (settleWithoutFrame code none [] s)

/-- The quiet gap of the station (R28, R29). -/
def neededGap (s : State) : Nat := if s.marker then Config.ownGap else Config.quietGap

/-- The line unit may open a frame (R30); it opens none while a hand-over snapshot waits or runs (R92). One still running whose
entry ABANDON has removed no longer holds it back (log 45). -/
def mayOpen (s : State) : Bool :=
  s.onBus && s.view == .quiet && decide (neededGap s ≤ s.gap) && !s.arbiter.busyFor .handover

/-- An opportunity with the gap count as it stands (R30): each completed entry leaves the queue, so the scheduler is
asked once more than the queue is long. -/
def frameOpportunity (gap : Nat) (s : State) : State :=
  if s.onBus ∧ s.view = .quiet then
    let s := { s with gap := gap }
    if mayOpen s then schedule (s.queue.length + 1) s else s
  else s

/-- FRAME_OPPORTUNITY (R30). -/
def execFrameOpportunity (gap : Nat) (prot : Bool) (s : State) : Host.Outcome State Fault Refusal :=
  .next (frameOpportunity gap (readProt prot s))

/-! ### Ticks and the end of an access -/

/-- A slot at the seek tick (R117). -/
def Slot.atSeekTick (ms : Bool) (r : Slot) : Slot :=
  let seek := r.seekDue || (r.state == .primary && r.partner.isNone && ms)
  if r.attempts = 3 then { r with seekDue := seek, attempts := 0, recoveryDue := true }
  else if r.state = .primary ∧ r.damaged ∧ r.partner.isSome ∧ r.recoveryDue = false then
    { r with seekDue := seek, recoveryDue := true, attempts := 0 }
  else { r with seekDue := seek }

/-- The seek tick falls due (R117). -/
def seekTick (s : State) : State :=
  if s.onBus then { s with slots := mapSlots (Slot.atSeekTick s.straps.ms) s.slots } else s

/-- SEEK_TICK (R117). -/
def execSeekTick (s : State) : Host.Outcome State Fault Refusal := .next (seekTick s)

/-- The slot indexes in the order the scrub looks at them, from the pointer on, wrapping (R106). -/
def scrubOrder (p : SlotIx) : List SlotIx :=
  (List.finRange 64).map fun i => p + i

/-- The slot the scrub tick finds (R106). -/
def scrubTarget (s : State) : Option SlotIx := (scrubOrder s.scrubPtr).find? fun i => (s.slot i).state.serves

/-- The scrub tick falls due (R106). -/
def scrubTick (s : State) : State :=
  if s.onBus ∧ scrubStep s = .none then
    match scrubTarget s with
    | some i => request .scrub ⟨i, .checkStep⟩ { s with scrubPtr := i + 1 }
    | none => s
  else s

/-- SCRUB_TICK (R106). -/
def execScrubTick (s : State) : Host.Outcome State Fault Refusal := .next (scrubTick s)

/-- STORE_ACCESS_END (R103). -/
def execStoreAccessEnd (s : State) : Host.Outcome State Fault Refusal := .next (accessEnd s)

end Sys2Proof.Machine
end

