-- ==== Sys2Proof/Machine/Dispatch.lean ====
section
/-! DEFINITION. The meaning of every command: one arm per constructor of Instr. -/

namespace Sys2Proof.Machine

/-- The effect of a command on everything but the queue of waiting commands. -/
def exec (i : Instr) (s : State) : Host.Outcome State Fault Refusal :=
  match i with
  | .supplyFall cause areasCleared => Sys2Proof.Machine.execSupplyFall cause areasCleared s
  | .start straps selHigh vbatHeld => Sys2Proof.Machine.execStart straps selHigh vbatHeld s
  | .storeClearingEnd => Sys2Proof.Machine.execStoreClearingEnd s
  | .settleEnd => Sys2Proof.Machine.execSettleEnd s
  | .waitingQuietReached => Sys2Proof.Machine.execWaitingQuietReached s
  | .frameOpportunity gap prot => Sys2Proof.Machine.execFrameOpportunity gap prot s
  | .verifyFrame events => Sys2Proof.Machine.execVerifyFrame events s
  | .resyncFrame prot events => Sys2Proof.Machine.execResyncFrame prot events s
  | .repairFrame prot events => Sys2Proof.Machine.execRepairFrame prot events s
  | .claimFrame prot events => Sys2Proof.Machine.execClaimFrame prot events s
  | .releaseFrame events => Sys2Proof.Machine.execReleaseFrame events s
  | .offerFrame prot events => Sys2Proof.Machine.execOfferFrame prot events s
  | .writeFrame prot events => Sys2Proof.Machine.execWriteFrame prot events s
  | .readFrame events => Sys2Proof.Machine.execReadFrame events s
  | .undefinedKindFrame kindLow events => Sys2Proof.Machine.execUndefinedKindFrame kindLow events s
  | .breakOff cause => Sys2Proof.Machine.execBreakOff cause s
  | .stuckBus => Sys2Proof.Machine.execStuckBus s
  | .stuckReleased => Sys2Proof.Machine.execStuckReleased s
  | .storeAccessEnd => Sys2Proof.Machine.execStoreAccessEnd s
  | .scrubTick => Sys2Proof.Machine.execScrubTick s
  | .seekTick => Sys2Proof.Machine.execSeekTick s
  | .transactionStart => Sys2Proof.Machine.execTransactionStart s
  | .transactionEnd sckEdge => Sys2Proof.Machine.execTransactionEnd sckEdge s
  | .identify => Sys2Proof.Machine.execIdentify s
  | .claim page prot => Sys2Proof.Machine.execClaim page prot s
  | .adopt page prot => Sys2Proof.Machine.execAdopt page prot s
  | .release page => Sys2Proof.Machine.execRelease page s
  | .write page offset countLess1 words => Sys2Proof.Machine.execWrite page offset countLess1 words s
  | .read page offset countLess1 => Sys2Proof.Machine.execRead page offset countLess1 s
  | .takeResult => Sys2Proof.Machine.execTakeResult s
  | .setPointer page word => Sys2Proof.Machine.execSetPointer page word s
  | .streamRead countLess1 => Sys2Proof.Machine.execStreamRead countLess1 s
  | .blockRead c => Sys2Proof.Machine.execBlockRead c s
  | .readOutcome => Sys2Proof.Machine.execReadOutcome s
  | .readAccrued => Sys2Proof.Machine.execReadAccrued s
  | .clearAccrued => Sys2Proof.Machine.execClearAccrued s
  | .takeCause => Sys2Proof.Machine.execTakeCause s
  | .returnNotice => Sys2Proof.Machine.execReturnNotice s
  | .setEnables enables => Sys2Proof.Machine.execSetEnables enables s
  | .readLatches => Sys2Proof.Machine.execReadLatches s
  | .clearLatches mask => Sys2Proof.Machine.execClearLatches mask s
  | .readFault => Sys2Proof.Machine.execReadFault s
  | .editFault page offset => Sys2Proof.Machine.execEditFault page offset s
  | .resume => Sys2Proof.Machine.execResume s
  | .discard => Sys2Proof.Machine.execDiscard s
  | .rewrite => Sys2Proof.Machine.execRewrite s
  | .readSlot index => Sys2Proof.Machine.execReadSlot index s
  | .queueState => Sys2Proof.Machine.execQueueState s
  | .abandon => Sys2Proof.Machine.execAbandon s
  | .busClear => Sys2Proof.Machine.execBusClear s
  | .busClearEnd run => Sys2Proof.Machine.execBusClearEnd run s
  | .unknownCommand code => Sys2Proof.Machine.execUnknownCommand code s
  | .lowLevelBetweenFrames => Sys2Proof.Machine.execLowLevelBetweenFrames s
  | .replyByteClockedOut sckHeld => Sys2Proof.Machine.execReplyByteClockedOut s sckHeld

end Sys2Proof.Machine
end

