-- ==== Sys2Proof/Machine/Step.lean ====
section
/-! DEFINITION. One step of the station: the command at the front of its queue is run with the queue's rest. -/

namespace Sys2Proof.Machine

/-- The station with another queue of waiting commands. -/
def State.withPending (s : State) (queue : List Instr) : State := { s with pending := queue }

/-- One step: the front command is taken and run; with nothing waiting the station idles (log 4). -/
def step (s : State) : Host.Outcome State Fault Refusal :=
  match s.pending with
  | [] => .next s
  | c :: rest => exec c (s.withPending rest)

/-- The state with the command a word spells at the front of its queue; unchanged where the word spells none, which is
every word (the table gives no row any bits). -/
def State.withFetchWord (s : State) (nbits w : Nat) : State :=
  match decodeTableWord nbits w with
  | some c => s.withPending (c :: s.pending)
  | none => s

end Sys2Proof.Machine
end

