-- ==== Sys2Proof/Safety.lean ====
section
/-! DEFINITION. What is meant to hold in every state a run reaches (the store's form, the shape of a slot, one slot for a page, the queue's and the fault list's bounds, the station state against the slots and the mark, the view against the frame record, recovery due), and the conditions the statements name: when a local command can act, when the frame engine has the store to itself, where a frame stands, how a frame leaves the records of its operation. -/

namespace Sys2Proof.Machine

/-! ### Invariants -/

/-- The store keeps its canonical form. -/
def StoreOk (s : State) : Prop := Memory.wf s.store = true

/-- The fields a slot has in its state (R2, R4, R14, R15, R18). -/
def Slot.shaped (ms : Bool) (r : Slot) : Prop :=
  (r.state = .free → r.page = none ∧ r.partner = none ∧ r.damaged = false ∧ r.recoveryDue = false ∧ r.attempts = 0) ∧
  (r.state ≠ .free → r.page.isSome = true) ∧
  (r.state = .claiming → r.partner = none) ∧
  (r.state = .mirror ∨ r.state = .stale ∨ r.state = .incoming → r.partner.isSome = true) ∧
  (r.state = .mirror ∨ r.state = .stale → r.damaged = false) ∧
  (r.seekDue = true → r.state = .primary ∧ r.partner = none ∧ ms = true)

/-- Every slot is shaped. -/
def SlotsOk (s : State) : Prop := ∀ i : SlotIx, (s.slot i).shaped s.straps.ms

/-- No two slots that are not FREE hold the same page (R1); a bid in progress holds its page and its FREE slot apart
(R3, R75). -/
def PagesOk (s : State) : Prop :=
  (∀ (i j : SlotIx) (p : PageId), (s.slot i).state ≠ .free → (s.slot j).state ≠ .free →
    (s.slot i).page = some p → (s.slot j).page = some p → i = j) ∧
  (∀ i, slotSetAside s = some i → (s.slot i).state = .free) ∧
  (∀ p, bidPage s = some p → lookup s p = none) ∧
  (∀ r, s.frame = some r → r.setAside.isSome = true → r.point = .bid)

/-- The number of entries of a kind other than WRITE. -/
def nonWrites (q : List Entry) : Nat := (q.filter fun e => !e.isWrite).length

/-- The queue holds at most 8 entries, at most one other than a WRITE, and none other than WRITEs while the result
record is valid (R132, R133, R140). -/
def QueueOk (s : State) : Prop :=
  s.queue.length ≤ Config.queueCapacity ∧ nonWrites s.queue ≤ 1 ∧
  (s.result.isSome = true → nonWrites s.queue = 0)

/-- Only the head can be in flight, and none is while the fault record list is not empty (R132, R151). -/
def FlightOk (s : State) : Prop :=
  (∀ e ∈ s.queue.tail, e.inFlight = false) ∧ (s.faults ≠ [] → ∀ e ∈ s.queue, e.inFlight = false)

/-- The shapes of the fault record list (R149). -/
def faultsShaped : List FaultRecord → Bool
  | [] => true
  | [.writeFailed _ _ fs] => decide (fs.length ≤ 2)
  | [.format _ _ _ _, .writeFailed _ _ fs] => decide (fs.length ≤ 2)
  | _ => false

/-- The fault record list is shaped, and no entry is in flight beside it. -/
def FaultsOk (s : State) : Prop := faultsShaped s.faults = true ∧ FlightOk s

/-- In RUN no slot is DOUBT (R131); the mark is valid on the bus, and in SETTLE exactly when no clearing is under way
(R100, R163). -/
def StationOk (s : State) : Prop :=
  (s.station = .run → anyDoubt s = false) ∧
  (s.station = .retain → s.clearing = false) ∧
  (s.station = .settle → s.clearing = !s.mark) ∧
  (s.onBus = true → s.mark = true ∧ s.clearing = false)

/-- The view is IN FRAME. -/
def View.isInFrame : View → Bool
  | .inFrame _ => true
  | _ => false

/-- A frame record exists exactly while the view is IN FRAME; off the bus the view is at its start value (R27, R42). -/
def ViewOk (s : State) : Prop :=
  s.frame.isSome = s.view.isInFrame ∧ (s.onBus = false → s.view = .waiting)

/-- A copy in question is not given up: a STALE or DOUBT slot has recovery due, or has spent its attempts and waits for
the seek tick (R16, R17, R117). -/
def DueOk (s : State) : Prop :=
  s.station ≠ .retain → s.clearing = false → ∀ i : SlotIx,
    (s.slot i).state = .stale ∨ (s.slot i).state = .doubt →
    (s.slot i).recoveryDue = true ∨ (s.slot i).attempts = 3

/-! ### Conditions the statements name -/

/-- A local command's transaction is open and its command has not taken effect, in REJOIN or RUN. -/
abbrev Ready (s : State) : Prop := canTake s = true ∧ s.station ≠ .settle

/-- The same in SETTLE. -/
abbrev ReadyInSettle (s : State) : Prop := canTake s = true ∧ s.station = .settle

/-- The commands SETTLE refuses: every local command that takes effect, but IDENTIFY and the unknown ones (R172). -/
def refusedInSettle : Instr → Bool
  | .claim _ _ | .adopt _ _ | .release _ | .read _ _ _ | .takeResult | .setPointer _ _ | .streamRead _
  | .blockRead _ | .readOutcome | .readAccrued | .clearAccrued | .takeCause | .returnNotice
  | .setEnables _ | .readLatches | .clearLatches _ | .readFault | .editFault _ _ | .resume | .discard
  | .rewrite | .readSlot _ | .queueState | .abandon | .busClear => true
  | .write _ _ c words => writeArrived c words
  | _ => false

/-- The pin a command reads (log 12). -/
def afterPins (c : Instr) (s : State) : State :=
  match c with
  | .claim _ prot => readProt prot s
  | .adopt _ prot => readProt prot s
  | _ => s

/-- The store is idle: no access in progress and none waiting. -/
abbrev StoreIdle (s : State) : Prop := s.arbiter = Arbiter.idle

/-- The row of a kind of frame; the rows that read no PROT pin carry none. -/
def frameRow (k : Kind) (prot : Bool) (events : List FrameEvent) : Instr :=
  match k with
  | .verify => .verifyFrame events
  | .resync => .resyncFrame prot events
  | .repair => .repairFrame prot events
  | .claim => .claimFrame prot events
  | .release => .releaseFrame events
  | .offer => .offerFrame prot events
  | .write => .writeFrame prot events
  | .read => .readFrame events

/-- A slot that has become STALE behind a station (R9). -/
def Slot.staleBehind (d : Slot) (h : StationNo) : Slot :=
  { d with state := .stale, partner := some h, damaged := false, seekDue := false, recoveryDue := true, attempts := 0 }

/-- A slot that has become PRIMARY with a partner or none, its damaged mark as given (R7, R15, R17). -/
def Slot.primaryWith (d : Slot) (ms : Bool) (p : Option StationNo) (damaged : Bool) : Slot :=
  { d with
    state := .primary, partner := p, damaged := damaged, seekDue := p.isNone && ms,
    recoveryDue := damaged && p.isSome, attempts := 0 }

/-- A slot after one failed recovery frame more (R16). -/
def Slot.triedOnceMore (d : Slot) : Slot :=
  { d with
    attempts := if d.attempts = 0 then 1 else if d.attempts = 1 then 2 else 3
    recoveryDue := d.recoveryDue && (d.attempts == 0 || d.attempts == 1) }

/-- The frame in progress, of a kind, stands at a point of the station's record: no bit of the byte there is read, and the
station has not begun its closing. -/
abbrev StandsAt (s : State) (r : FrameRecord) (k : Kind) (p : Point) : Prop :=
  s.frame = some r ∧ r.kindCode = some k.code ∧ r.point = p ∧ r.part ≠ .onlooker ∧ r.bits = [] ∧ r.closed = false

/-- The station is the originator of the frame in progress, which belongs to an operation of its own. -/
abbrev Originates (s : State) (r : FrameRecord) (op : OpRef) : Prop :=
  r.part = .originator ∧ ∃ request, s.own = some ⟨op, request⟩

/-- The entry in flight stands at the head of the queue, and none has been given up. -/
abbrev HeadInFlight (s : State) (e : Entry) (rest : List Entry) : Prop :=
  s.abandoned = none ∧ s.queue = e :: rest ∧ e.inFlight = true

/-! ### How a frame leaves the records of its operation -/

/-- One outcome flag as a set, where a condition holds. -/
def flagIf (b : Bool) (f : Flag) : BitVec 16 := if b then withFlag f 0 else 0

/-- A WRITE entry for a page. -/
def Entry.writesTo (page : PageId) (e : Entry) : Bool :=
  match e.body with
  | .write p _ _ => p == page
  | _ => false

/-- A WRITE entry as a fault record holds it (R149). -/
def Entry.asHeld (e : Entry) : HeldWrite :=
  match e.body with
  | .write p o ws => ⟨e.tag, p, o, ws⟩
  | _ => ⟨e.tag, e.body.page, 0, []⟩

/-- The first two WRITE entries for a page in a queue, which follow a failed write into its record (R150). -/
def followersIn (page : PageId) (q : List Entry) : List HeldWrite :=
  ((q.filter (Entry.writesTo page)).take 2).map Entry.asHeld

/-- The queue without them. -/
def withoutFollowers (page : PageId) (q : List Entry) : List Entry :=
  (q.eraseP (Entry.writesTo page)).eraseP (Entry.writesTo page)

/-- An entry's operation has ended in a frame whose end added flags: the outcome set takes them, and is marked ended where it
shows the operation; with those gathered before they are combined into the accrued set (R146, R147). -/
abbrev EntryEnded (s t : State) (e : Entry) (added : BitVec 16) : Prop :=
  t.outcome = ⟨s.outcome.flags ||| added, s.outcome.identity,
    s.outcome.ended || s.outcome.identity == some e.identity⟩ ∧
  t.accrued = s.accrued ||| accruedOf e.isWrite (e.gathered ||| added)

/-- An entry other than a WRITE has left the queue into the result record, DONE is set, and what else was latched (R140, R142). -/
abbrev ResultFilled (s t : State) (e : Entry) (rest : List Entry) (code : Code) (holder : Option StationNo)
    (status : Option Bool) (words : List Word) (latched : BitVec 6) : Prop :=
  t.queue = rest ∧ t.faults = s.faults ∧ t.latches = s.latches ||| (1#6 <<< 0) ||| latched ∧
  t.result = some ⟨e.tag, e.body.kind, e.body.mode, code, e.body.page, holder, status, words⟩

/-- A WRITE has left the queue into a fault record, its followers with it, FAULT is set, and what else was latched (R141, R150). -/
abbrev WriteFailed (s t : State) (e : Entry) (rest : List Entry) (cause : Code) (latched : BitVec 6) : Prop :=
  t.queue = withoutFollowers e.body.page rest ∧ t.result = s.result ∧ t.latches = s.latches ||| (1#6 <<< 4) ||| latched ∧
  t.faults = .writeFailed cause e.asHeld (followersIn e.body.page rest) :: s.faults

/-- A try has counted one attempt (R139): the entry stays at the head with the flags added; at the third it fails finally with the
cause. -/
abbrev AttemptCounted (s t : State) (e : Entry) (rest : List Entry) (added : BitVec 16) (cause : Code)
    (latched : BitVec 6) : Prop :=
  (e.attempts = 0 ∨ e.attempts = 1 →
    t.queue = { e with attempts := e.attempts + 1, inFlight := false, gathered := e.gathered ||| added } :: rest ∧
    t.outcome = { s.outcome with flags := s.outcome.flags ||| added } ∧ t.accrued = s.accrued ∧
    t.result = s.result ∧ t.faults = s.faults ∧ t.latches = s.latches ||| latched) ∧
  (e.attempts = 2 → EntryEnded s t e added ∧
    (e.isWrite = false → ResultFilled s t e rest cause none none [] latched) ∧
    (e.isWrite = true → WriteFailed s t e rest cause latched))

/-- The CLAIMING slot of a CLAIM NEW entry is freed, and every other slot stays (R5). -/
abbrev ClaimSlotFreed (s t : State) (e : Entry) : Prop :=
  (∀ i page, e.body = .claim page .new (some i) → (s.slot i).state = .claiming → t.slot i = Slot.freed) ∧
  (∀ i, (∀ page, e.body ≠ .claim page .new (some i)) ∨ (s.slot i).state ≠ .claiming → t.slot i = s.slot i)

/-- The frame of a WRITE has ended without its closing, its operation with a flag and cause (R90): known to be applied it completes,
with the final bits' flags where the frame had reached them; else, or with its check found bad, it counts an attempt. Which byte
tells: an originator that holds the page goes by its own status, one of two of a number by the byte it read (R33, log 41). -/
abbrev WriteBroken (s t : State) (r : FrameRecord) (e : Entry) (rest : List Entry) (f : Flag) (cause : Code)
    (latched : BitVec 6) : Prop :=
  let isApplied (b : Byte) : Bool := b &&& 0x7F == 0x01
  let decides : Bool := r.contest == .won && (r.alone || r.answer.isEmpty)
  let applied : Bool :=
    if decides then r.status.any isApplied && s.arbiter.frame.isNone else r.answer.head?.any isApplied
  let settled : Option Byte := if r.contest = .won ∧ r.alone = true then r.status else r.answer.head?
  let finals : BitVec 16 :=
    if r.point = .over ∨ r.point = .past then
      flagIf r.hold .staleMirror ||| flagIf (settled.any (fun b => b.msb) && !r.ack && !r.hold) .unmirrored
    else 0
  (applied = true → r.answerCheck ≠ some false → t.queue = rest ∧ t.faults = s.faults ∧ t.result = s.result ∧
    t.latches = s.latches ||| latched ∧ EntryEnded s t e (withFlag f 0 ||| finals)) ∧
  (applied = false → r.answerCheck = none → AttemptCounted s t e rest (withFlag f 0) cause latched) ∧
  (r.answerCheck = some false → AttemptCounted s t e rest (withFlag f 0) .answerBad latched)

/-- An upkeep operation goes on after a frame of it, with the flags added (R116, R146). -/
abbrev UpkeepGoesOn (s t : State) (added : BitVec 16) : Prop :=
  t.upkeep = s.upkeep.map (fun op => { op with flags := op.flags ||| added }) ∧
  t.outcome = { s.outcome with flags := s.outcome.flags ||| added } ∧ t.accrued = s.accrued ∧
  t.queue = s.queue ∧ t.result = s.result ∧ t.faults = s.faults

/-- The upkeep operation in progress has ended: the outcome set takes the flags added, and is marked ended where it shows the
operation; they are combined into the accrued set (R116, R147). -/
abbrev UpkeepEnded (s t : State) (added : BitVec 16) : Prop :=
  t.upkeep = none ∧
  t.outcome = ⟨s.outcome.flags ||| added, s.outcome.identity,
    s.outcome.ended || s.upkeep.any fun op => s.outcome.identity == some op.identity⟩ ∧
  t.accrued = s.accrued ||| (match s.upkeep with
    | none => 0
    | some op => accruedOf false (op.flags ||| added)) ∧
  t.queue = s.queue ∧ t.result = s.result ∧ t.faults = s.faults

/-- A recovery frame for a slot has failed: its operation goes on, or has ended with the third attempt (R116). -/
abbrev UpkeepTried (s t : State) (d : Slot) (added : BitVec 16) : Prop :=
  (d.attempts = 0 ∨ d.attempts = 1 → UpkeepGoesOn s t added) ∧
  (d.attempts ≠ 0 → d.attempts ≠ 1 → UpkeepEnded s t added)

end Sys2Proof.Machine
end

