-- ==== Sys2Proof/Certificates/Slice0/Obligations.lean ====
section
/-! DEFINITION. The statements for the provers. -/

section Statements

open Sys2Proof Sys2Proof.Machine

/-! ### The machine as a whole -/

/-- The model's own rule for a block: a step runs the front command on the station with the queue's rest; with nothing
waiting it idles (log 4). -/
def Obligations.StepRunsFrontCommand : Prop :=
  (∀ (c : Instr) (rest : List Instr) (s : State),
    step (s.withPending (c :: rest)) = exec c (s.withPending rest)) ∧
  (∀ s : State, step (s.withPending []) = .next (s.withPending []))

/-- No command stops the station, and none touches the queue of waiting commands: the model's reading of a spec that leaves no
result open (log 31) and its choice for a command whose condition does not hold (log 1). -/
def Obligations.EveryCommandAnswersNext : Prop :=
  ∀ (c : Instr) (s : State), ∃ t, exec c s = .next t ∧ t.pending = s.pending

/-- The part that has never been started is in RETAIN with an invalid mark and meets every invariant; the values of
its other fields are the model's (log 8, log 9). -/
def Obligations.ResetMeetsInvariants : Prop :=
  State.reset.station = .retain ∧ State.reset.mark = false ∧ State.reset.pending = [] ∧
  StoreOk State.reset ∧ SlotsOk State.reset ∧ PagesOk State.reset ∧ QueueOk State.reset ∧
  FaultsOk State.reset ∧ StationOk State.reset ∧ ViewOk State.reset ∧ DueOk State.reset

/-- Every step keeps the store's canonical form. -/
def Obligations.StepKeepsStore : Prop :=
  ∀ s t : State, StoreOk s → step s = .next t → StoreOk t

/-- Every step keeps the shape of every slot. -/
def Obligations.StepKeepsSlotShapes : Prop :=
  ∀ s t : State, SlotsOk s → step s = .next t → SlotsOk t

/-- Every step keeps one slot at most for a page. -/
def Obligations.StepKeepsPagesApart : Prop :=
  ∀ s t : State, PagesOk s → step s = .next t → PagesOk t

/-- Every step keeps the queue's bounds. -/
def Obligations.StepKeepsQueueBounds : Prop :=
  ∀ s t : State, QueueOk s → step s = .next t → QueueOk t

/-- Every step keeps the fault record list's shape and the hold beside it. -/
def Obligations.StepKeepsFaultList : Prop :=
  ∀ s t : State, FaultsOk s → step s = .next t → FaultsOk t

/-- Every step keeps RUN free of DOUBT slots and the bus to stations with a valid mark. -/
def Obligations.StepKeepsStationState : Prop :=
  ∀ s t : State, StationOk s → step s = .next t → StationOk t

/-- Every step keeps the frame record to the view IN FRAME, and the view off the bus at WAITING (the model's choice for RETAIN
and SETTLE, log 9). -/
def Obligations.StepKeepsViewAndRecord : Prop :=
  ∀ s t : State, ViewOk s → step s = .next t → ViewOk t

/-- Every step keeps each STALE or DOUBT copy due, or spent and waiting for the seek tick. -/
def Obligations.StepKeepsCopiesDue : Prop :=
  ∀ s t : State, DueOk s → step s = .next t → DueOk t

/-- A frame given in two pieces is the frame given whole (the model's own reading of a frame row, log 2); and an originator's
closing in its two moments, PBD driven low and PBD released (R167), is the closing whole, with the store idle (log 29). -/
def Obligations.FrameInPieces : Prop :=
  ((∀ (k : Kind) (prot : Bool) (es fs : List FrameEvent) (s t : State),
     exec (frameRow k prot es) s = .next t →
     exec (frameRow k prot fs) t = exec (frameRow k prot (es ++ fs)) s) ∧
   (∀ (low : BitVec 3) (es fs : List FrameEvent) (s t : State),
     exec (.undefinedKindFrame low es) s = .next t →
     exec (.undefinedKindFrame low fs) t = exec (.undefinedKindFrame low (es ++ fs)) s)) ∧
  (∀ (k : Kind) (prot : Bool) (s : State) (r : FrameRecord), StandsAt s r k .over → r.part = .originator →
    StoreIdle s →
    exec (frameRow k prot [.closingBegun, .closing]) s = exec (frameRow k prot [.closing]) s)

/-! ### Local port -/

/-- R172: in SETTLE every local command but IDENTIFY and the unknown ones is refused NOTREADY, with no data and no change
(of anything but the transaction that carries the reply and the pin read, log 12). -/
def Obligations.SettleRefusesCommands : Prop :=
  ∀ (c : Instr) (s : State), refusedInSettle c = true → ReadyInSettle s →
    exec c s = .next (reply .notReady [] (afterPins c s))

/-- R174 and R172: IDENTIFY and an unknown code, in every state from SETTLE on; and what a reply at once is: the command has
taken effect, and one part more is ready (R169). -/
def Obligations.IdentifyAndUnknown : Prop :=
  ((∀ s : State, canTake s = true →
     exec .identify s = .next (reply .ok
       [0x64, 0x16, 0#4 ++ s.straps.number,
        0#4 ++ s.straps.rate ++ BitVec.ofBool s.straps.mh ++ BitVec.ofBool s.straps.ms,
        (match s.station with
         | .retain => 0 | .settle => 1 | .rejoin => 2 | .run => 3),
        (match s.startKind with
         | .cold => 0 | .warm => 1)] s)) ∧
   (∀ (code : Byte) (s : State), canTake s = true → commandCodes.contains code = false →
     exec (.unknownCommand code) s = .next (reply .unknown [] s))) ∧
  (∀ (st : Status) (d : List Byte) (s : State) (t : Transaction), s.txn = some t →
     reply st d s = { s with txn := some { t with
       taken := true, ready := t.ready ++ [⟨st, d, false⟩], fillerBegun := false } })

/-- R175, R176: SET POINTER; STREAM READ, which moves the pointer at once past the run and whose one or two parts fall due in
turn; BLOCK READ, which sets the word to 0, returns c + 1 whole pages and moves the pointer past them. -/
def Obligations.PointerCommands : Prop :=
  (∀ (page : PageId) (word : Byte) (s : State), Ready s →
     (word.toNat ≤ 127 → exec (.setPointer page word) s = .next (reply .accepted [page, word]
       { s with pointerPage := page, pointerWord := word.extractLsb' 0 7 })) ∧
     (127 < word.toNat → exec (.setPointer page word) s = .next (reply .invalid [] s))) ∧
  (∀ (c : Byte) (s : State), Ready s →
     let p := s.pointerPage
     let w := s.pointerWord.toNat
     let n := c.toNat + 1
     (127 < c.toNat → exec (.streamRead c) s = .next (reply .invalid [] s)) ∧
     (c.toNat ≤ 127 → w + n ≤ 127 → exec (.streamRead c) s = .next
       (startParts [⟨p, w, n, true⟩] { s with pointerPage := p, pointerWord := BitVec.ofNat 7 (w + n) })) ∧
     (c.toNat ≤ 127 → w + n = 128 → exec (.streamRead c) s = .next
       (startParts [⟨p, w, n, true⟩] { s with pointerPage := p + 1, pointerWord := 0 })) ∧
     (c.toNat ≤ 127 → 128 < w + n → exec (.streamRead c) s = .next
       (startParts [⟨p, w, 128 - w, true⟩, ⟨p + 1, 0, w + n - 128, true⟩]
         { s with pointerPage := p + 1, pointerWord := BitVec.ofNat 7 (w + n - 128) }))) ∧
  (∀ (c : Byte) (s : State), Ready s →
     (15 < c.toNat → exec (.blockRead c) s = .next (reply .invalid [] s)) ∧
     (c.toNat ≤ 15 → ∃ parts : List PartSpec,
       parts.length = c.toNat + 1 ∧
       (∀ k, (h : k < parts.length) →
         parts[k] = ⟨s.pointerPage + BitVec.ofNat 8 k, 0, 128, true⟩) ∧
       exec (.blockRead c) s = .next
         (startParts parts { s with pointerPage := s.pointerPage + c + 1, pointerWord := 0 })))

/-- R177: a part due for a page not held as PRIMARY or MIRROR is NOTHELD, and its words read 0xFFFF; for a page held so, with the
store idle, a snapshot is taken (logs 5 and 6). Of a list of parts the first is due with the command and the rest wait; the next
part not yet due falls due in its turn. -/
def Obligations.PageParts : Prop :=
  (∀ (p : PartSpec) (ps : List PartSpec) (s : State) (t : Transaction), s.txn = some t →
    ((∀ i, lookup s p.page = some i → (s.slot i).state.serves = false) →
      startParts (p :: ps) s = { s with txn := some { t with
        taken := true, todo := ps, fillerBegun := false,
        ready := t.ready ++ [⟨.notHeld, if p.stream then List.replicate (2 * p.count) 0xFF else [], false⟩] } }) ∧
    (∀ i, lookup s p.page = some i → (s.slot i).state.serves = true → StoreIdle s →
      startParts (p :: ps) s = { s with
        txn := some { t with
          taken := true, todo := ps, awaiting := some p, fillerBegun := t.sending.isNone && t.ready.isEmpty }
        arbiter := { Arbiter.idle with
          inProgress := some ⟨.port, i, .snapshot, (s.slot i).page, (s.slot i).damaged, true⟩ } })) ∧
  (∀ (s : State) (t : Transaction), s.txn = some t → t.todo = [] → nextPartDue s = s) ∧
  (∀ (p : PartSpec) (ps : List PartSpec) (s : State) (t : Transaction), s.txn = some t → t.todo = p :: ps →
    ((∀ i, lookup s p.page = some i → (s.slot i).state.serves = false) →
      nextPartDue s = { s with txn := some { t with
        todo := ps
        ready := t.ready ++ [⟨.notHeld, if p.stream then List.replicate (2 * p.count) 0xFF else [], false⟩] } }) ∧
    (∀ i, lookup s p.page = some i → (s.slot i).state.serves = true → StoreIdle s →
      nextPartDue s = { s with
        txn := some { t with todo := ps, awaiting := some p }
        arbiter := { Arbiter.idle with
          inProgress := some ⟨.port, i, .snapshot, (s.slot i).page, (s.slot i).damaged, true⟩ } }))

/-- R178: READ SLOT answers the slot image as it stands and changes nothing. -/
def Obligations.ReadSlot : Prop :=
  (∀ (index : Byte) (s : State), Ready s →
    (∀ h : index.toNat < 64, exec (.readSlot index) s = .next
      (reply .ok (slotImage (s.slot ⟨index.toNat, h⟩)) s)) ∧
    (64 ≤ index.toNat → exec (.readSlot index) s = .next (reply .invalid [] s))) ∧
  (∀ r : Slot, slotImage r =
    [(match r.state with
      | .free => 0 | .claiming => 1 | .primary => 2 | .mirror => 3 | .stale => 4 | .doubt => 5 | .incoming => 6),
     BitVec.ofBool r.page.isSome ++ BitVec.ofBool r.partner.isSome ++ BitVec.ofBool r.damaged
       ++ BitVec.ofBool r.seekDue ++ BitVec.ofBool r.recoveryDue ++ 0#1 ++ BitVec.ofNat 2 r.attempts.val,
     r.page.getD 0, 0#4 ++ r.partner.getD 0]
    ++ versionBytes r.version ++ wordBytes r.check)

/-- R168, R170, R171: a transaction begins with SEL falling after it was seen high; its end before its command took effect
is short where SCK had an edge; a snapshot waiting is withdrawn, one in progress runs to its end for nobody, and every other
access and request stays. The byte 0x00 at either end of a transaction is the model's view of the pin (log 9). -/
def Obligations.Transactions : Prop :=
  (∀ s : State, s.station ≠ .retain → s.selHigh = true → s.txn = none →
    exec .transactionStart s = .next { s with selHigh := false, txn := some Transaction.begun, sdo := 0 }) ∧
  (∀ (edge : Bool) (s : State) (t : Transaction), s.station ≠ .retain → s.txn = some t →
    exec (.transactionEnd edge) s = .next { s with
      selHigh := true, txn := none, sdo := 0, short := s.short || (!t.taken && (edge || decide (0 < t.received)))
      arbiter := { s.arbiter with
        port := none
        inProgress := s.arbiter.inProgress.map fun a =>
          if a.claimant = .port then { a with live := false } else a } })

/-- R168: before its command takes effect a transaction carries 0x00 on SDO while the bytes of the command come in. R169, R170:
from then on the bytes clocked out are filler while nothing is ready, and where a byte's first bit went out before its reply was
ready (SCK not held high until then); else the marker, the status with the SHORT flag where it is carried, and the data, in that
order and byte by byte; the flag is cleared when a status byte carrying it is out. A part without a snapshot lets the next part
fall due as its words begin to be sent (R177), with the fall of SCK that ends its status byte (logs 23 and 24). The next byte
begins as filler where no part is being sent and none is ready (log 23). -/
def Obligations.ReplyBytes : Prop :=
  ∀ (held : Bool) (s : State) (t : Transaction), s.txn = some t →
    let begins (u : State) : State :=
      { u with txn := u.txn.map fun t => { t with fillerBegun := t.sending.isNone && t.ready.isEmpty } }
    let out (b : Byte) (short : Bool) (t' : Transaction) : State := { s with sdo := b, short := short, txn := some t' }
    let clocked := exec (.replyByteClockedOut held) s
    let nextByte (p : ReplyPart) (n : Nat) : Option (ReplyPart × Nat) :=
      if n < p.data.length + 2 then some (p, n) else none
    (t.taken = false → clocked = .next { s with sdo := 0x00, txn := some { t with received := t.received + 1 } }) ∧
    (t.taken = true → t.sending = none → t.ready = [] ∨ (t.fillerBegun = true ∧ held = false) →
      clocked = .next (begins { s with sdo := 0x00 })) ∧
    (∀ p rest, t.taken = true → t.sending = none → t.ready = p :: rest → t.fillerBegun = false ∨ held = true →
      clocked = .next (begins (out 0x5A s.short { t with ready := rest, sending := nextByte p 1 }))) ∧
    (∀ p, t.taken = true → t.sending = some (p, 1) →
      let u := out (p.status.code ||| (if s.short && !t.statusSent then 0x80 else 0))
        (s.short && t.statusSent) { t with sending := nextByte p 2, statusSent := true }
      (p.data = [] ∨ p.snapshot = true ∨ t.todo = [] → clocked = .next (begins u)) ∧
      (p.data ≠ [] → p.snapshot = false → clocked = .next (begins (nextPartDue u)))) ∧
    (∀ p n, t.taken = true → t.sending = some (p, n + 2) →
      clocked = .next (begins (out (p.data.getD n 0) s.short { t with sending := nextByte p (n + 3) })))

/-! ### Send queue -/

/-- R133, R134: CLAIM, its tests in order, and its acceptance. -/
def Obligations.ClaimCommand : Prop :=
  ∀ (page : PageId) (prot : Bool) (s : State), Ready s →
    let s' := readProt prot s
    claimRefusal page s' =
      (if 8 ≤ s.queue.length then some .full
       else if hasNonWrite s || s.result.isSome then some .busy
       else if prot then some .prot
       else if (freeForClaim s).isNone then some .noSlot
       else if heldHere page s then some .heldHere
       else none) ∧
    (∀ st, claimRefusal page s' = some st → exec (.claim page prot) s = .next (reply st [] s')) ∧
    (claimRefusal page s' = none → ∃ i, freeForClaim s = some i ∧
      exec (.claim page prot) s = .next (reply .accepted [s.nextTag]
        { s'.setSlot i ⟨.claiming, some page, none, 0, 0, false, false, false, 0⟩ with
          queue := s.queue ++ [⟨s.nextTag, .claim page .new (some i), 0, 0, false⟩]
          nextTag := s.nextTag + 1 }))

/-- R133, R134, R135: ADOPT and RELEASE, their tests in order, and their acceptance. -/
def Obligations.AdoptAndReleaseCommands : Prop :=
  ∀ (page : PageId) (prot : Bool) (s : State), Ready s →
    let s' := readProt prot s
    (adoptRefusal page s' =
      (if 8 ≤ s.queue.length then some .full
       else if hasNonWrite s || s.result.isSome then some .busy
       else if prot then some .prot
       else if stateFor page s ≠ .stale then some .notHeld
       else none) ∧
     (∀ st, adoptRefusal page s' = some st → exec (.adopt page prot) s = .next (reply st [] s')) ∧
     (adoptRefusal page s' = none → exec (.adopt page prot) s = .next (reply .accepted [s.nextTag]
       { s' with
         queue := s.queue ++ [⟨s.nextTag, .claim page .adopt none, 0, 0, false⟩]
         nextTag := s.nextTag + 1 }))) ∧
    (releaseRefusal page s =
      (if 8 ≤ s.queue.length then some .full
       else if hasNonWrite s || s.result.isSome then some .busy
       else if stateFor page s ≠ .primary ∧ stateFor page s ≠ .mirror ∧ stateFor page s ≠ .stale
         then some .notHeld
       else none) ∧
     (∀ st, releaseRefusal page s = some st → exec (.release page) s = .next (reply st [] s)) ∧
     (releaseRefusal page s = none → exec (.release page) s = .next (reply .accepted [s.nextTag]
       { s with
         queue := s.queue ++ [⟨s.nextTag, .release page, 0, 0, false⟩]
         nextTag := s.nextTag + 1 })))

/-- R133, R136: WRITE is tested for its range and the queue's room alone, and takes the words its count asks. -/
def Obligations.WriteCommand : Prop :=
  ∀ (page : PageId) (offset c : Byte) (words : List Word) (s : State), Ready s →
    (127 < offset.toNat ∨ 7 < c.toNat → writeArrived c words = true →
      exec (.write page offset c words) s = .next (reply .invalid [] s)) ∧
    (offset.toNat ≤ 127 → c.toNat ≤ 7 → words.length = c.toNat + 1 → 8 ≤ s.queue.length →
      exec (.write page offset c words) s = .next (reply .full [] s)) ∧
    (offset.toNat ≤ 127 → c.toNat ≤ 7 → words.length = c.toNat + 1 → s.queue.length < 8 →
      exec (.write page offset c words) s = .next (reply .accepted [s.nextTag]
        { s with
          queue := s.queue ++ [⟨s.nextTag, .write page offset words, 0, 0, false⟩]
          nextTag := s.nextTag + 1 }))

/-- R133, R137: READ is refused for its range, served at once from a page held here, or tested and queued. -/
def Obligations.ReadCommand : Prop :=
  ∀ (page : PageId) (offset c : Byte) (s : State), Ready s →
    let n := c.toNat + 1
    let held := stateFor page s = .primary ∨ stateFor page s = .mirror
    (127 < offset.toNat ∨ 15 < c.toNat → exec (.read page offset c) s = .next (reply .invalid [] s)) ∧
    (offset.toNat ≤ 127 → c.toNat ≤ 15 →
      (held → 128 < offset.toNat + n → exec (.read page offset c) s = .next (reply .range [] s)) ∧
      (held → offset.toNat + n ≤ 128 →
        exec (.read page offset c) s = .next (startParts [⟨page, offset.toNat, n, false⟩] s)) ∧
      (¬ held → 8 ≤ s.queue.length → exec (.read page offset c) s = .next (reply .full [] s)) ∧
      (¬ held → s.queue.length < 8 → (hasNonWrite s || s.result.isSome) = true →
        exec (.read page offset c) s = .next (reply .busy [] s)) ∧
      (¬ held → s.queue.length < 8 → (hasNonWrite s || s.result.isSome) = false →
        exec (.read page offset c) s = .next (reply .accepted [s.nextTag]
          { s with
            queue := s.queue ++ [⟨s.nextTag, .read page offset n, 0, 0, false⟩]
            nextTag := s.nextTag + 1 })))

/-- R143: TAKE RESULT, and the record's fields as the reply carries them (13.6). -/
def Obligations.TakeResult : Prop :=
  (∀ (s : State) (r : ResultRecord), Ready s → s.result = some r →
    exec .takeResult s = .next (reply .ok (resultImage r) { s with result := none })) ∧
  (∀ s : State, Ready s → s.result = none → exec .takeResult s = .next (reply .empty [] s)) ∧
  (∀ s : State, ReadyInSettle s → exec .takeResult s = .next (reply .notReady [] s)) ∧
  (∀ r : ResultRecord, resultImage r =
    [r.tag, 0#4 ++ r.kind.code,
     (match r.mode with
      | none => 0 | some .new => 1 | some .adopt => 2),
     r.outcome.code, r.page,
     (match r.holder with
      | none => 0xFF | some h => 0#4 ++ h),
     (match r.status with
      | none => 0 | some false => 0x01 | some true => 0x20),
     BitVec.ofNat 8 r.words.length] ++ wordsBytes r.words)

/-- R144, R146: QUEUE STATE and READ OUTCOME answer the images of what stands (13.6) and change nothing. R145: ABANDON removes every
entry, gives up one in flight with its CLAIMING slot as it is (R5), frees the CLAIMING slot of each removed CLAIM NEW and leaves
every other slot as it was. -/
def Obligations.QueueCommands : Prop :=
  (∀ s : State, Ready s →
     exec .queueState s = .next (reply .ok (queueImage s) s) ∧
     exec .readOutcome s = .next (reply .ok (outcomeImage s.outcome) s) ∧
     queueImage s =
       [BitVec.ofNat 8 s.queue.length, s.nextTag,
        0#4 ++ BitVec.ofBool s.abandoned.isSome ++ BitVec.ofBool (!s.faults.isEmpty) ++ BitVec.ofBool (anyDoubt s)
          ++ BitVec.ofBool s.result.isSome,
        (match s.abandoned with
         | none => 0 | some e => e.tag)]
       ++ (s.queue.map fun e =>
         [e.tag,
          BitVec.ofBool e.inFlight ++ 0#1
            ++ (match e.body.mode with
              | none => 0#2 | some .new => 1#2 | some .adopt => 2#2) ++ e.body.kind.code,
          e.body.page, BitVec.ofNat 8 e.attempts.val]).flatten ∧
     outcomeImage s.outcome =
       [s.outcome.flags.extractLsb' 8 8, s.outcome.flags.extractLsb' 0 8,
        (match s.outcome.identity with
         | none => 0xFF | some (k, _) => 0#4 ++ k.code),
        (match s.outcome.identity with
         | none => 0 | some (_, n) => n),
        if s.outcome.ended then 0x01 else 0x00]) ∧
  (∀ s : State, Ready s →
   let removed := match s.queue with
     | [] => []
     | e :: rest => if e.inFlight then rest else e :: rest
   ∃ t, exec .abandon s = .next t ∧
     t.queue = [] ∧
     t.abandoned = (match s.queue with
       | [] => s.abandoned
       | e :: _ => if e.inFlight then some e else s.abandoned) ∧
     t.arbiter.busyFor .handover = false ∧
     (∀ e page i, e ∈ removed → e.body = .claim page .new (some i) →
       (s.slot i).state = .claiming → t.slot i = Slot.freed) ∧
     (∀ i, (s.slot i).state ≠ .claiming → t.slot i = s.slot i) ∧
     (∀ i, (∀ e page, e ∈ removed → e.body ≠ .claim page .new (some i)) → t.slot i = s.slot i) ∧
     t.store = s.store ∧ t.faults = s.faults ∧ t.editPage = s.editPage ∧ t.editOffset = s.editOffset ∧
     t.result = s.result ∧ t.nextTag = s.nextTag ∧ t.outcome = s.outcome ∧ t.accrued = s.accrued ∧
     t.frame = s.frame ∧ t.own = s.own ∧ t.view = s.view ∧ t.latches = s.latches ∧
     t.txn = s.txn.map fun x =>
       { x with
         taken := true, ready := x.ready ++ [⟨.accepted, [BitVec.ofNat 8 s.queue.length], false⟩], fillerBegun := false })

/-- R148: READ ACCRUED and CLEAR ACCRUED; and an operation still in progress at a CLEAR ACCRUED enters the emptied set when it
ends. -/
def Obligations.AccruedCommands : Prop :=
  (∀ s : State, Ready s →
    exec .readAccrued s = .next (reply .ok [0#2 ++ s.accrued] s) ∧
    exec .clearAccrued s = .next (reply .accepted [0#2 ++ s.accrued] { s with accrued := 0 })) ∧
  (∀ s : State, ReadyInSettle s →
    exec .readAccrued s = .next (reply .notReady [] s) ∧
    exec .clearAccrued s = .next (reply .notReady [] s)) ∧
  (∀ (s : State) (e : Entry), s.accrued = 0 → (endEntry e s).accrued = accruedOf e.isWrite e.gathered) ∧
  (∀ (s : State) (op : UpkeepOp), s.accrued = 0 → s.upkeep = some op →
    (endUpkeep s).accrued = accruedOf false op.flags)

/-! ### Notices -/

/-- R181: TAKE CAUSE names, clears and silences the first latch set and enabled in the order of R179; RETURN sets the master
enable, and NOTE follows (R180). -/
def Obligations.TakeCauseAndReturn : Prop :=
  (∀ s : State, Ready s →
     (∀ l : Latch, (s.latches &&& s.enables).getLsbD l.pos = true →
       (∀ l' : Latch, l.pos < l'.pos → (s.latches &&& s.enables).getLsbD l'.pos = false) →
       exec .takeCause s = .next (reply .accepted [l.cause]
         { s with latches := s.latches &&& ~~~(1#6 <<< l.pos), master := false })) ∧
     (s.latches &&& s.enables = 0 → exec .takeCause s = .next (reply .accepted [0x00] s))) ∧
  (∀ s : State, Ready s →
     exec .returnNotice s = .next (reply .accepted [] { s with master := true }) ∧
     noteAsserted { s with master := true } = ((s.latches &&& s.enables) != 0#6))

/-- R182: SET ENABLES (NOTE follows the new enables), READ LATCHES, CLEAR LATCHES, and the five commands in SETTLE. -/
def Obligations.LatchCommands : Prop :=
  (∀ (b : Byte) (s : State), Ready s →
    exec (.setEnables b) s = .next (reply .accepted [0#2 ++ b.extractLsb' 0 6]
      { s with enables := b.extractLsb' 0 6 }) ∧
    noteAsserted { s with enables := b.extractLsb' 0 6 } =
      (s.master && (s.latches &&& b.extractLsb' 0 6) != 0#6) ∧
    exec .readLatches s = .next (reply .accepted
      [0#2 ++ s.latches, 0#2 ++ s.enables, if s.master then 0x01 else 0x00] s) ∧
    exec (.clearLatches b) s = .next (reply .accepted [0#2 ++ s.latches]
      { s with latches := s.latches &&& ~~~(b.extractLsb' 0 6) })) ∧
  (∀ (b : Byte) (s : State), ReadyInSettle s →
    exec .takeCause s = .next (reply .notReady [] s) ∧
    exec .returnNotice s = .next (reply .notReady [] s) ∧
    exec (.setEnables b) s = .next (reply .notReady [] s) ∧
    exec .readLatches s = .next (reply .notReady [] s) ∧
    exec (.clearLatches b) s = .next (reply .notReady [] s))

/-! ### Fault unit -/

/-- R152, R153: READ FAULT answers the depth and the top record's image (13.6) and changes nothing; EDIT FAULT stages both bytes
whatever they are. -/
def Obligations.ReadAndEditFault : Prop :=
  (∀ (s : State) (top : FaultRecord) (rest : List FaultRecord), Ready s → s.faults = top :: rest →
    exec .readFault s = .next (reply .ok (BitVec.ofNat 8 s.faults.length :: faultImage top) s)) ∧
  (∀ s : State, Ready s → s.faults = [] → exec .readFault s = .next (reply .empty [0] s)) ∧
  (∀ (page : PageId) (offset : Byte) (s : State), Ready s →
    exec (.editFault page offset) s = .next (reply .accepted [page, offset]
      { s with editPage := page, editOffset := offset })) ∧
  (∀ (page : PageId) (offset : Byte) (s : State), ReadyInSettle s →
    exec .readFault s = .next (reply .notReady [] s) ∧
    exec (.editFault page offset) s = .next (reply .notReady [] s)) ∧
  (let held (w : HeldWrite) : List Byte :=
     [w.tag, w.page, w.offset, BitVec.ofNat 8 w.data.length] ++ wordsBytes w.data
   (∀ (cause : Code) (first : HeldWrite) (followers : List HeldWrite),
     faultImage (.writeFailed cause first followers) =
       [0x01, cause.code, BitVec.ofNat 8 followers.length] ++ held first ++ (followers.map held).flatten) ∧
   (∀ (entry : FailingEntry) (field : FailingField) (page : PageId) (offset : Byte),
     faultImage (.format entry field page offset) =
       [0x02,
        (match entry with
         | .first => 0 | .follower1 => 1 | .follower2 => 2),
        (match field with
         | .offset => 0x01 | .range => 0x02),
        page, offset]))

/-- R154: RESUME, its tests in order, and the entries put back as R158 gives. -/
def Obligations.Resume : Prop :=
  (∀ s : State, ReadyInSettle s → exec .resume s = .next (reply .notReady [] s)) ∧
  (∀ s : State, Ready s → s.faults = [] → exec .resume s = .next (reply .empty [] s)) ∧
  (∀ (s : State) (en : FailingEntry) (f : FailingField) (p : PageId) (o : Byte) (rest : List FaultRecord),
    Ready s → s.faults = .format en f p o :: rest → exec .resume s = .next (reply .invalid [] s)) ∧
  (∀ (s : State) (cause : Code) (first : HeldWrite) (followers : List HeldWrite), Ready s →
    s.faults = [.writeFailed cause first followers] →
    (8 < s.queue.length + (followers.length + 1) → exec .resume s = .next (reply .full [] s)) ∧
    (s.queue.length + (followers.length + 1) ≤ 8 →
      exec .resume s = .next (reply .accepted [BitVec.ofNat 8 (followers.length + 1)]
        { s with
          queue := (first :: followers).map
            (fun w => (⟨w.tag, .write w.page w.offset w.data, 0, 0, false⟩ : Entry)) ++ s.queue
          faults := [] })))

/-- R155: DISCARD. -/
def Obligations.Discard : Prop :=
  (∀ s : State, ReadyInSettle s → exec .discard s = .next (reply .notReady [] s)) ∧
  (∀ s : State, Ready s → s.faults = [] → exec .discard s = .next (reply .empty [] s)) ∧
  (∀ (s : State) (en : FailingEntry) (f : FailingField) (p : PageId) (o : Byte) (rest : List FaultRecord),
    Ready s → s.faults = .format en f p o :: rest →
    exec .discard s = .next (reply .accepted [0] { s with faults := rest })) ∧
  (∀ (s : State) (cause : Code) (first : HeldWrite) (followers : List HeldWrite) (rest : List FaultRecord),
    Ready s → s.faults = .writeFailed cause first followers :: rest →
    exec .discard s = .next (reply .accepted [BitVec.ofNat 8 (followers.length + 1)] { s with faults := rest }))

/-- R156, R157: REWRITE validates the staged offset against the first write and each follower's own offset, pushes a
FORMAT record for the first that fails, and else puts the edited writes back where there is room. -/
def Obligations.Rewrite : Prop :=
  (∀ s : State, Ready s → s.faults = [] → exec .rewrite s = .next (reply .empty [] s)) ∧
  (∀ (s : State) (en : FailingEntry) (f : FailingField) (p : PageId) (o : Byte) (rest : List FaultRecord),
    Ready s → s.faults = .format en f p o :: rest → exec .rewrite s = .next (reply .invalid [] s)) ∧
  (∀ (s : State) (cause : Code) (first : HeldWrite) (followers : List HeldWrite), Ready s →
    s.faults = [.writeFailed cause first followers] → followers.length ≤ 2 →
    let bad (o : Byte) (data : List Word) : Prop := 128 < o.toNat + data.length
    let pushed (en : FailingEntry) (f : FailingField) : State :=
      { s with
        faults := [.format en f s.editPage s.editOffset, .writeFailed cause first followers]
        latches := s.latches ||| (1#6 <<< 4) }
    (bad s.editOffset first.data →
      exec .rewrite s = .next (reply .badEdit [] (pushed .first .offset))) ∧
    (¬ bad s.editOffset first.data → ∀ f1 rest, followers = f1 :: rest → bad f1.offset f1.data →
      exec .rewrite s = .next (reply .badEdit [] (pushed .follower1 .range))) ∧
    (¬ bad s.editOffset first.data → ∀ f1 f2, followers = [f1, f2] → ¬ bad f1.offset f1.data →
      bad f2.offset f2.data → exec .rewrite s = .next (reply .badEdit [] (pushed .follower2 .range))) ∧
    (¬ bad s.editOffset first.data → (∀ f ∈ followers, ¬ bad f.offset f.data) →
      8 < s.queue.length + (followers.length + 1) → exec .rewrite s = .next (reply .full [] s)) ∧
    (¬ bad s.editOffset first.data → (∀ f ∈ followers, ¬ bad f.offset f.data) →
      s.queue.length + (followers.length + 1) ≤ 8 →
      exec .rewrite s = .next (reply .accepted [BitVec.ofNat 8 (followers.length + 1)]
        { s with
          queue := (⟨first.tag, .write s.editPage s.editOffset first.data, 0, 0, false⟩ : Entry) ::
            followers.map (fun w => (⟨w.tag, .write s.editPage w.offset w.data, 0, 0, false⟩ : Entry)) ++ s.queue
          faults := [] })))

/-! ### Supply -/

/-- R160: SUPPLY FALL leaves the store (but for a clearing cut short, R163), the retentive slot fields and the mark, and
nothing else; the values volatile fields show in RETAIN are the model's (log 9). -/
def Obligations.SupplyFall : Prop :=
  ∀ (cause : FallCause) (areas : Nat) (s : State),
    ∃ t, exec (.supplyFall cause areas) s = .next t ∧
      (s.clearing = false → t.store = s.store) ∧
      (∀ i, t.slot i = { s.slot i with seekDue := false, recoveryDue := false, attempts := 0 }) ∧
      t.mark = s.mark ∧ t.vddGood = (s.vddGood && cause == .rstLow) ∧
      t = { State.reset with
        store := t.store, slots := t.slots, mark := t.mark, vddGood := t.vddGood, prot := s.prot,
        pending := s.pending }

/-- R162, R164: a warm start keeps the store and the retentive fields, and changes each slot's state by the table of
R21. -/
def Obligations.WarmStart : Prop :=
  ∀ (straps : Straps) (sel vbat : Bool) (s : State), s.station = .retain → s.mark = true →
    (s.vddGood || vbat) = true →
    ∃ t, exec (.start straps sel vbat) s = .next t ∧
      t.station = .settle ∧ t.straps = straps ∧ t.startKind = .warm ∧ t.mark = true ∧ t.clearing = false ∧
      t.store = s.store ∧ t.queue = [] ∧ t.result = none ∧ t.faults = [] ∧ t.latches = 0 ∧
      t.pointerPage = 0 ∧ t.pointerWord = 0 ∧ t.nextTag = 0 ∧ t.scrubPtr = 0 ∧ t.selHigh = sel ∧
      (∀ i, let d := s.slot i
        (d.state = .primary ∨ d.state = .doubt →
          t.slot i = { d with state := .doubt, seekDue := false, recoveryDue := true, attempts := 0 }) ∧
        (d.state = .mirror ∨ d.state = .stale →
          t.slot i = { d with
            state := .stale, damaged := false, seekDue := false, recoveryDue := true, attempts := 0 }) ∧
        (d.state = .claiming ∨ d.state = .incoming ∨ d.state = .free → t.slot i = Slot.freed))

/-- R100, R163: a start on an invalid mark is cold and clears; the clearing ends with every slot FREE, every word 0x0000 and the
mark valid. R131, R159, R165: the end of SETTLE, into REJOIN with a DOUBT slot and into RUN without; the line unit in WAITING
and POWER set. -/
def Obligations.ColdStartAndSettleEnd : Prop :=
  ((∀ (straps : Straps) (sel vbat : Bool) (s : State), s.station = .retain →
     (s.mark && (s.vddGood || vbat)) = false →
     ∃ t, exec (.start straps sel vbat) s = .next t ∧
       t.station = .settle ∧ t.straps = straps ∧ t.startKind = .cold ∧ t.mark = false ∧ t.clearing = true) ∧
   (∀ s : State, s.station = .settle → s.clearing = true →
     ∃ t, exec .storeClearingEnd s = .next t ∧
       (∀ i, t.slot i = Slot.freed) ∧ (∀ a, t.store.read a = 0) ∧ t.mark = true ∧ t.clearing = false ∧
       t.station = .settle)) ∧
  (∀ s : State, s.station = .settle → s.clearing = false →
     exec .settleEnd s = .next { s with
       station := if anyDoubt s then .rejoin else .run
       view := .waiting, gap := 0, stuck := 0, marker := false
       latches := s.latches ||| (1#6 <<< 5) })

/-! ### Line unit -/

/-- R27, R28, R40: the quiet that ends WAITING, the release that ends STUCK, a low level between frames. R36: a stuck bus with no
frame in progress, also once in a STUCK left by a bus clear (R39), and one that takes the head's frame from its originator:
TIMEOUT and one attempt, the third final (R139), or a WRITE known to be applied, which completes (R90). The cause of a try already
void or found bad is the model's choice (log 15). -/
def Obligations.BetweenFramesAndStuck : Prop :=
  ((∀ s : State, s.onBus = true → s.view = .waiting →
     exec .waitingQuietReached s = .next { s with view := .quiet, gap := 24 }) ∧
   (∀ s : State, s.view = .stuck → exec .stuckReleased s = .next { s with view := .quiet, gap := 0, stuck := 0 }) ∧
   (∀ s : State, s.onBus = true → s.view = .waiting ∨ s.view = .quiet →
     exec .lowLevelBetweenFrames s = .next { s with gap := 0 })) ∧
  ((∀ s : State, s.onBus = true → s.view = .waiting ∨ s.view = .quiet → s.frame = none →
     exec .stuckBus s = .next { s with
       view := .stuck, gap := 0, stuck := 2049, latches := s.latches ||| (1#6 <<< 1) }) ∧
   (∀ s : State, s.onBus = true → s.view = .stuck → s.frame = none →
     (s.stuck ≤ 2048 → exec .stuckBus s = .next { s with
       gap := 0, stuck := 2049, latches := s.latches ||| (1#6 <<< 1) }) ∧
     (2048 < s.stuck → exec .stuckBus s = .next s)) ∧
   (∀ (s : State) (r : FrameRecord) (e : Entry) (rest : List Entry) (b : Bool), s.onBus = true →
     s.view = .inFrame b → s.frame = some r → Originates s r .entry → HeadInFlight s e rest → r.incoming = none →
     r.closed = false →
     ∃ t, exec .stuckBus s = .next t ∧ t.view = .stuck ∧ t.frame = none ∧ t.own = none ∧
       (r.kindCode.isSome = true → t.marker = true) ∧ t.store = s.store ∧
       (r.kindCode = some Kind.claim.code ∨ r.kindCode = some Kind.release.code ∨ r.kindCode = some Kind.read.code →
         r.answerCheck ≠ some true →
         AttemptCounted s t e rest (withFlag .timeout 0)
           (if r.voidRead then .void else if r.answerCheck = some false then .answerBad else .timeout) (1#6 <<< 1) ∧
         (e.attempts = 0 ∨ e.attempts = 1 → t.slots = s.slots) ∧ (e.attempts = 2 → ClaimSlotFreed s t e)) ∧
       (r.kindCode = some Kind.write.code → r.voidRead = false →
         WriteBroken s t r e rest .timeout .timeout (1#6 <<< 1))))

/-- R35: a frame that breaks off at a participant without an INCOMING slot is dropped with nothing changed; one with it frees that
slot, with ROLE (R6, R77). At the originator of a CLAIM, RELEASE or READ it records BROKEN and counts one attempt, the third final
(R139, R140); a WRITE known to be applied completes with BROKEN (R90), by its own decision or by what it read (R33, log 41). The
cause of a try already void or found bad is the model's choice (log 15). At an originator that has begun its closing it changes
nothing more (R167, log 29). R59: a closing after a bit more than the frame has is one too. -/
def Obligations.BreakOff : Prop :=
  (∀ (cause : BreakCause) (s : State) (r : FrameRecord), s.frame = some r → r.part = .participant →
    r.incoming = none →
    ∃ t, exec (.breakOff cause) s = .next t ∧ t.frame = none ∧ t.own = none ∧
      t.view = (if s.view = .inFrame true then .waiting else .quiet) ∧
      t.gap = (match cause with
        | .clockHigh gap => gap
        | .dataFall => 0) ∧
      t.marker = s.marker ∧ t.slots = s.slots ∧ t.store = s.store ∧ t.queue = s.queue ∧
      t.outcome = s.outcome ∧ t.accrued = s.accrued ∧ t.latches = s.latches) ∧
  (∀ (cause : BreakCause) (s : State) (r : FrameRecord) (i : SlotIx), s.frame = some r → r.part = .participant →
    r.incoming = some i → r.closed = false → (s.slot i).state = .incoming →
    ∃ t, exec (.breakOff cause) s = .next t ∧ t.frame = none ∧ t.slot i = Slot.freed ∧
      (∀ j, j ≠ i → t.slot j = s.slot j) ∧ t.store = s.store ∧ t.queue = s.queue ∧
      t.latches = s.latches ||| (1#6 <<< 2) ∧ (s.upkeep = none → t.outcome = s.outcome ∧ t.accrued = s.accrued)) ∧
  (∀ (cause : BreakCause) (s : State) (r : FrameRecord) (e : Entry) (rest : List Entry), s.frame = some r →
    Originates s r .entry → HeadInFlight s e rest → r.incoming = none → r.closed = false →
    ∃ t, exec (.breakOff cause) s = .next t ∧ t.frame = none ∧ (r.kindCode.isSome = true → t.marker = true) ∧
      t.store = s.store ∧
      (r.kindCode = some Kind.claim.code ∨ r.kindCode = some Kind.release.code ∨ r.kindCode = some Kind.read.code →
        r.answerCheck ≠ some true →
        AttemptCounted s t e rest (withFlag .broken 0)
          (if r.voidRead then .void else if r.answerCheck = some false then .answerBad else .broken) 0 ∧
        (e.attempts = 0 ∨ e.attempts = 1 → t.slots = s.slots) ∧ (e.attempts = 2 → ClaimSlotFreed s t e)) ∧
      (r.kindCode = some Kind.write.code → r.voidRead = false → WriteBroken s t r e rest .broken .broken 0)) ∧
  (∀ (cause : BreakCause) (s : State) (r : FrameRecord), s.frame = some r → r.closed = true →
    ∃ t, exec (.breakOff cause) s = .next t ∧ t.frame = none ∧ t.own = none ∧ t.slots = s.slots ∧ t.store = s.store ∧
      t.queue = s.queue ∧ t.result = s.result ∧ t.faults = s.faults ∧ t.outcome = s.outcome ∧ t.accrued = s.accrued ∧
      t.latches = s.latches) ∧
  (∀ (k : Kind) (prot b : Bool) (s : State) (r : FrameRecord), StandsAt s r k .over → r.part = .participant →
    r.incoming = none → s.arbiter.busyFor .frame = false →
    ∃ t, exec (frameRow k prot [.bit b, .closing]) s = .next t ∧ t.frame = none ∧ t.slots = s.slots ∧
      t.store = s.store ∧ t.queue = s.queue ∧ t.outcome = s.outcome ∧ t.accrued = s.accrued ∧ t.latches = s.latches)

/-- R38, R39: BUS CLEAR is refused BUSY in CLEARING or while a line is driven, and else enters CLEARING, dropping a frame in
progress; how a clear ends, at once, at one of its 16 pulses or after them, and the view and the reply it leaves. -/
def Obligations.BusClear : Prop :=
  (∀ s : State, Ready s →
     (s.view = .clearing ∨ drivesLine s = true → exec .busClear s = .next (reply .busy [] s)) ∧
     (s.view ≠ .clearing → drivesLine s = false →
       ∃ t, exec .busClear s = .next t ∧ t.view = .clearing ∧ t.frame = none ∧ t.marker = s.marker ∧
         t.store = s.store ∧
         t.txn = s.txn.map (fun x => { x with taken := true, awaitingClear := true, fillerBegun := true }) ∧
         (s.frame = none → t.slots = s.slots ∧ t.queue = s.queue ∧ t.latches = s.latches))) ∧
  (∀ (run : ClearRun) (s : State), s.view = .clearing →
     let both := run.pbcAfter && run.pbdAfter
     let ended (st : Status) : State :=
       { s with
         view := if both then .quiet else .stuck, gap := 0, stuck := 0
         txn := s.txn.map fun t =>
           if t.awaitingClear then { t with awaitingClear := false, ready := t.ready ++ [⟨st, [], false⟩] } else t }
     (run.pbdHigh = true →
       exec (.busClearEnd run) s = .next (ended (if both then .cleared else .stillStuck))) ∧
     (∀ n b rest, n < 16 → run.pbdHigh = false → run.pulses = List.replicate n ⟨true, false⟩ ++ ⟨false, b⟩ :: rest →
       exec (.busClearEnd run) s = .next (ended .stillStuck)) ∧
     (∀ n rest, n < 16 → run.pbdHigh = false → run.pulses = List.replicate n ⟨true, false⟩ ++ ⟨true, true⟩ :: rest →
       exec (.busClearEnd run) s = .next (ended (if both then .cleared else .stillStuck))) ∧
     (run.pbdHigh = false → run.pulses = List.replicate 16 ⟨true, false⟩ →
       exec (.busClearEnd run) s = .next (ended .stillStuck)))

/-! ### Scheduler, scrub and store -/

/-- R30, R115: none is opened before the quiet gap (R28). From it on the frame opened is, in order, a VERIFY, a RESYNC, a REPAIR,
one for the head, or an OFFER; with none of them, none is opened. A head's frame is a WRITE as accepted (R80), a CLAIM or ADOPT
that PROT and its slot allow (R61), a RELEASE in the mode its slot decides (R67), or a READ of a page not served here (R92). -/
def Obligations.SchedulerOpens : Prop :=
  ∀ (gap : Nat) (prot : Bool) (s : State), s.onBus = true → s.view = .quiet →
    s.arbiter.busyFor .handover = false →
    let needed := if s.marker then 24 else 12
    let idle := exec (.frameOpportunity gap prot) s = .next { s with prot := prot, gap := gap }
    let opened (op : OpRef) (request : List Byte) : Prop :=
      ∃ t, exec (.frameOpportunity gap prot) s = .next t ∧ t.view = .opening ∧
        t.own = some ⟨op, request⟩ ∧ t.slots = s.slots ∧ t.store = s.store
    let upkeep (k : Kind) (i : SlotIx) : Prop :=
      opened (.upkeep k i) (requestBytes k s.straps.number ((s.slot i).page.getD 0)
        (versionBytes (s.slot i).version))
    let verify := firstSlot s fun r => r.state == .doubt && r.recoveryDue
    let resync := firstSlot s fun r => r.state == .stale && r.recoveryDue
    let repair := firstSlot s fun r => r.state == .primary && r.damaged && r.partner.isSome && r.recoveryDue
    let offer := firstSlot s fun r => r.state == .primary && r.seekDue
    let held := anyDoubt s = true ∨ s.faults ≠ [] ∨ s.queue = []
    (gap < needed → idle) ∧
    (needed ≤ gap →
      (∀ i, verify = some i → upkeep .verify i) ∧
      (∀ i, verify = none → prot = false → resync = some i → upkeep .resync i) ∧
      (∀ i, verify = none → prot = false → resync = none → repair = some i → upkeep .repair i) ∧
      (∀ e rest, verify = none → (prot = true ∨ resync = none ∧ repair = none) → anyDoubt s = false →
        s.faults = [] → s.queue = e :: rest →
        let sent (page : PageId) (fields : List Byte) : Prop :=
          opened .entry (requestBytes e.body.kind s.straps.number page fields)
        (∀ page offset data, e.body = .write page offset data →
          sent page (offset :: BitVec.ofNat 8 (data.length - 1) :: wordsBytes data)) ∧
        (∀ page slot, e.body = .claim page .new slot → prot = false → sent page [0x01]) ∧
        (∀ page slot, e.body = .claim page .adopt slot → prot = false → stateFor page s = .stale →
          sent page [0x02]) ∧
        (∀ page, e.body = .release page → stateFor page s = .primary → sent page [0x01]) ∧
        (∀ page, e.body = .release page → stateFor page s = .mirror ∨ stateFor page s = .stale →
          sent page [0x02]) ∧
        (∀ page offset count, e.body = .read page offset count → stateFor page s ≠ .primary →
          stateFor page s ≠ .mirror → sent page [offset, BitVec.ofNat 8 (count - 1)])) ∧
      (∀ i, verify = none → (prot = true ∨ resync = none ∧ repair = none) → held → offer = some i →
        upkeep .offer i) ∧
      (verify = none → (prot = true ∨ resync = none ∧ repair = none) → held → offer = none → idle))

/-- R61, R67, R92: the hand-over test settles the head of the queue without a frame: a CLAIM under PROT, an ADOPT of a page no
longer STALE, a RELEASE of a page no longer held, a READ past the end of a page held here; the outcome set is given to the entry
(R146). R115: the scheduler then goes through its table again, for the rest of the queue, within the same opportunity. R92: a READ
of a page held here asks for its snapshot, taken at once by an idle store (log 5), and no frame is opened. -/
def Obligations.HandOverSettles : Prop :=
  ∀ (gap : Nat) (prot : Bool) (s : State) (e : Entry) (rest : List Entry), s.onBus = true → s.view = .quiet →
    s.arbiter.busyFor .handover = false → (if s.marker then 24 else 12) ≤ gap → s.queue = e :: rest →
    s.faults = [] → anyDoubt s = false →
    (prot = true ∨ (∀ i, Slot.dueResync (s.slot i) = false ∧ Slot.dueRepair (s.slot i) = false)) →
    let opportunity (u : State) := exec (.frameOpportunity gap prot) u
    let settled (code : Code) (added : BitVec 16) : Prop :=
      ∃ u, opportunity s = opportunity u ∧ u.view = .quiet ∧ u.store = s.store ∧ ClaimSlotFreed s u e ∧
        ResultFilled s u e rest code none none [] 0 ∧
        u.outcome = ⟨added, some e.identity, true⟩ ∧ u.accrued = s.accrued ||| accruedOf false (e.gathered ||| added) ∧
        (rest = [] → (∀ i, Slot.dueOffer (s.slot i) = false) → opportunity s = .next u)
    (∀ page m slot, e.body = .claim page m slot → prot = true → settled .prot (withFlag .prot 0)) ∧
    (∀ page slot, e.body = .claim page .adopt slot → prot = false → stateFor page s ≠ .stale → settled .notHeld 0) ∧
    (∀ page, e.body = .release page →
      stateFor page s ≠ .primary → stateFor page s ≠ .mirror → stateFor page s ≠ .stale → settled .notHeld 0) ∧
    (∀ page offset count, e.body = .read page offset count →
      stateFor page s = .primary ∨ stateFor page s = .mirror → 128 < offset.toNat + count → settled .range 0) ∧
    (∀ page offset count i, e.body = .read page offset count → lookup s page = some i →
      (s.slot i).state = .primary ∨ (s.slot i).state = .mirror → offset.toNat + count ≤ 128 → StoreIdle s →
      opportunity s = .next { s with
        prot := prot, gap := gap
        arbiter := { Arbiter.idle with
          inProgress := some ⟨.handover, i, .snapshot, (s.slot i).page, (s.slot i).damaged, true⟩ } })

/-- R106: the scrub tick asks for a check step on the first PRIMARY or MIRROR slot from the pointer on, and moves the
pointer past it; with a step pending, or no such slot, it does nothing. -/
def Obligations.ScrubTick : Prop :=
  (∀ (s : State) (i : SlotIx) (n : Nat), s.onBus = true → scrubStep s = .none → n < 64 →
    i = s.scrubPtr + BitVec.toFin (BitVec.ofNat 6 n) →
    (s.slot i).state = .primary ∨ (s.slot i).state = .mirror →
    (∀ m, m < n → let st := (s.slot (s.scrubPtr + BitVec.toFin (BitVec.ofNat 6 m))).state
      st ≠ .primary ∧ st ≠ .mirror) →
    ∃ t, exec .scrubTick s = .next t ∧ t.scrubPtr = i + 1 ∧ t.slots = s.slots ∧ t.store = s.store ∧
      (StoreIdle s → t.arbiter = { Arbiter.idle with
        inProgress := some ⟨.scrub, i, .checkStep, (s.slot i).page, (s.slot i).damaged, true⟩ }) ∧
      (s.arbiter.inProgress.isSome = true → t.arbiter = { s.arbiter with scrub := some ⟨i, .checkStep⟩ })) ∧
  (∀ s : State, scrubStep s ≠ .none → exec .scrubTick s = .next s) ∧
  (∀ s : State, (∀ i, (s.slot i).state ≠ .primary ∧ (s.slot i).state ≠ .mirror) →
    exec .scrubTick s = .next s)

/-- R103, R107 to R110: the end of a check step, then the next grant. A mismatch turns a MIRROR STALE and marks an undamaged
PRIMARY, with DAMAGE set in the latches and the accrued set; every other case changes nothing. The next access is granted to
a frame, else to a hand-over snapshot, else to the local port, else to the scrub unit. -/
def Obligations.StoreAccessEnds : Prop :=
  (∀ (s : State) (i : SlotIx) (page : Option PageId) (mark : Bool),
     s.arbiter.inProgress = some ⟨.scrub, i, .checkStep, page, mark, true⟩ →
     let d := s.slot i
     let agrees : Prop := pageCheck d.version (s.store.page i) = d.check
     let found (u : State) (d' : Slot) : Prop :=
       exec .storeAccessEnd s = .next (grantNext u) ∧ u.arbiter.inProgress = none ∧ u.store = s.store ∧
       u.slot i = d' ∧ (∀ j, j ≠ i → u.slot j = s.slot j) ∧
       u.latches = s.latches ||| (1#6 <<< 3) ∧ u.accrued = s.accrued ||| (1#6 <<< 2)
     (¬ agrees → d.page = page → d.state = .mirror → ∃ u, found u
       { d with state := .stale, damaged := false, seekDue := false, recoveryDue := true, attempts := 0 }) ∧
     (¬ agrees → d.page = page → d.state = .primary → d.damaged = false → d.partner = none → ∃ u, found u
       { d with damaged := true }) ∧
     (¬ agrees → d.page = page → d.state = .primary → d.damaged = false → d.partner ≠ none → ∃ u, found u
       { d with damaged := true, recoveryDue := true, attempts := 0 }) ∧
     (agrees ∨ d.page ≠ page ∨ (d.state ≠ .mirror ∧ (d.state ≠ .primary ∨ d.damaged = true)) →
       exec .storeAccessEnd s =
         .next (grantNext (s.withArbiter { s.arbiter with inProgress := none })))) ∧
  (∀ (s : State) (c : Claimant) (i : SlotIx) (k : AccessKind) (page : Option PageId) (mark : Bool),
     s.arbiter.inProgress = some ⟨c, i, k, page, mark, false⟩ →
     let a : Arbiter := { s.arbiter with inProgress := none }
     (∀ q, a.frame = some q →
       exec .storeAccessEnd s = .next (grant .frame q (s.withArbiter { a with frame := none }))) ∧
     (∀ q, a.frame = none → a.handover = some q →
       exec .storeAccessEnd s = .next (grant .handover q (s.withArbiter { a with handover := none }))) ∧
     (∀ q, a.frame = none → a.handover = none → a.port = some q →
       exec .storeAccessEnd s = .next (grant .port q (s.withArbiter { a with port := none }))) ∧
     (∀ q, a.frame = none → a.handover = none → a.port = none → a.scrub = some q →
       exec .storeAccessEnd s = .next (grant .scrub q (s.withArbiter { a with scrub := none }))) ∧
     (a.frame = none → a.handover = none → a.port = none → a.scrub = none →
       exec .storeAccessEnd s = .next (s.withArbiter Arbiter.idle)))

/-- R177, R137, R92: a snapshot ends with nothing else waiting. The port's next part, where one is left, falls due then. The local
port's part is NOTHELD where the slot as it then stands no longer holds the page, and else OK or DAMAGED by the snapshot's own
mark, the slot's as the access began (R101); a READ served at its hand-over completes from it, or stays at the head where the slot
no longer holds the page. -/
def Obligations.SnapshotResults : Prop :=
  (∀ (s : State) (t : Transaction) (i : SlotIx) (p : PartSpec) (page : Option PageId) (mark : Bool),
    s.arbiter = { Arbiter.idle with inProgress := some ⟨.port, i, .snapshot, page, mark, true⟩ } →
    s.txn = some t → t.awaiting = some p →
    let d := s.slot i
    let held := (d.state = .primary ∨ d.state = .mirror) ∧ d.page = some p.page
    let ended (st : Status) (data : List Byte) : State :=
      { s with
        arbiter := Arbiter.idle
        txn := some { t with awaiting := none, ready := t.ready ++ [⟨st, data, true⟩] } }
    let answers (st : Status) (data : List Byte) : Prop :=
      exec .storeAccessEnd s = .next (nextPartDue (ended st data)) ∧
      (t.todo = [] → exec .storeAccessEnd s = .next (ended st data))
    (held → answers (if mark then .damaged else .ok)
      (wordsBytes (((s.store.page i).drop p.first).take p.count))) ∧
    (¬ held → answers .notHeld (if p.stream then List.replicate (2 * p.count) 0xFF else []))) ∧
  (∀ (s : State) (i : SlotIx) (pg : Option PageId) (mark : Bool) (e : Entry) (rest : List Entry) (page : PageId)
    (offset : Byte) (count : Nat),
    s.arbiter = { Arbiter.idle with inProgress := some ⟨.handover, i, .snapshot, pg, mark, true⟩ } →
    s.queue = e :: rest → e.body = .read page offset count →
    let d := s.slot i
    let held := (d.state = .primary ∨ d.state = .mirror) ∧ d.page = some page
    (held → ∃ t, exec .storeAccessEnd s = .next t ∧ t.queue = rest ∧ t.slots = s.slots ∧ t.store = s.store ∧
      t.arbiter = Arbiter.idle ∧ t.latches = s.latches ||| (1#6 <<< 0) ∧
      (let added := flagIf mark .damaged
       t.outcome = ⟨added, some e.identity, true⟩ ∧ t.accrued = s.accrued ||| accruedOf false (e.gathered ||| added)) ∧
      t.result = some ⟨e.tag, .read, none, if mark then .damaged else .ok, page, none, some mark,
        ((s.store.page i).drop offset.toNat).take count⟩) ∧
    (¬ held → exec .storeAccessEnd s = .next (s.withArbiter Arbiter.idle)))

/-- R117: the seek tick, slot by slot; off the bus it does not run (R165). -/
def Obligations.SeekTick : Prop :=
  (∀ s : State, s.onBus = false → exec .seekTick s = .next s) ∧
  ∀ s : State, s.onBus = true →
    ∃ t, exec .seekTick s = .next t ∧ t = { s with slots := t.slots } ∧
      ∀ i, let d := s.slot i
        let seek := d.seekDue || (d.state == .primary && d.partner.isNone && s.straps.ms)
        (d.attempts = 3 → t.slot i = { d with seekDue := seek, attempts := 0, recoveryDue := true }) ∧
        (d.attempts ≠ 3 → d.state = .primary ∧ d.damaged = true ∧ d.partner ≠ none ∧ d.recoveryDue = false →
          t.slot i = { d with seekDue := seek, attempts := 0, recoveryDue := true }) ∧
        (d.attempts ≠ 3 → ¬ (d.state = .primary ∧ d.damaged = true ∧ d.partner ≠ none ∧ d.recoveryDue = false) →
          t.slot i = { d with seekDue := seek })

/-! ### The parts every frame shares -/

/-- R31, R32: an opener that meets a lower header, of a lower kind or of its own kind and a lower number, has lost: the frame is
given up with ARBLOST and no attempt, for the head and for upkeep work alike, and the station is a participant. It has lost from
the very bit it placed as 1 and read as 0, anywhere in the request part. An entry given up by ABANDON leaves then, its CLAIMING
slot freed (R145). The last bit of a byte completes it: the station goes on as a participant that has read it, or as an onlooker
of a kind or a value that is not defined (R45, R46). That the entry is no longer in flight from then on is the model's reading
(log 19). -/
def Obligations.ArbitrationLost : Prop :=
  (∀ (k own : Kind) (o : StationNo) (prot : Bool) (s : State) (r : FrameRecord) (op : OpRef) (tail : List Byte),
    s.frame = some r → r.point = .header → r.part = .opener → r.request = [] → r.kindCode = none → r.bits = [] →
    s.own = some ⟨op, (own.code ++ s.straps.number) :: tail⟩ → k.code ++ o < own.code ++ s.straps.number →
    s.arbiter.busyFor .frame = false →
    ∃ t r', exec (frameRow k prot [.header o]) s = .next t ∧ t.own = none ∧ t.frame = some r' ∧
      r'.part = .participant ∧ r'.originator = o ∧ r'.kindCode = some k.code ∧
      t.marker = (s.marker && o == s.straps.number) ∧ t.store = s.store ∧
      t.outcome.flags = withFlag .arbLost s.outcome.flags ∧
      (op ≠ .entry ∨ s.abandoned = none → t.slots = s.slots) ∧
      (∀ e, op = .entry → s.abandoned = some e → t.abandoned = none ∧ t.queue = s.queue ∧
        (∀ i, (∀ page, e.body ≠ .claim page .new (some i)) → t.slot i = s.slot i) ∧
        (∀ i page, e.body = .claim page .new (some i) → (s.slot i).state = .claiming → t.slot i = Slot.freed)) ∧
      (∀ e rest, op = .entry → HeadInFlight s e rest →
        t.queue = { e with inFlight := false, gathered := withFlag .arbLost e.gathered } :: rest) ∧
      (∀ k' i, op = .upkeep k' i → t.queue = s.queue ∧
        t.upkeep = s.upkeep.map fun u => { u with flags := withFlag .arbLost u.flags })) ∧
  (∀ (k : Kind) (prot : Bool) (s : State) (r : FrameRecord) (op : OpRef) (request : List Byte),
    s.frame = some r → r.part = .opener → r.bits.length < 8 →
    (r.point = .header ∧ r.kindCode = none) ∨
      ((r.point = .page ∨ r.point = .field ∨ r.point = .check) ∧ r.kindCode = some k.code) →
    s.own = some ⟨op, request⟩ →
    (request.getD r.request.length 0xFF).getLsbD (7 - r.bits.length) = true →
    s.arbiter.busyFor .frame = false →
    let read := byteOf (r.bits ++ [false])
    ∃ t r', exec (frameRow k prot [.bit true]) s = .next t ∧ t.own = none ∧ t.frame = some r' ∧ t.store = s.store ∧
      (r.bits.length < 7 → r'.part = .participant ∧ r'.bits = r.bits ++ [false] ∧ r'.point = r.point) ∧
      (r.bits.length = 7 → r'.bits = [] ∧
        (r.point = .header → r'.request = [read] ∧ r'.kindCode = some (read.extractLsb' 4 4) ∧
          r'.part = (if (read.extractLsb' 4 4).toNat < 8 then .participant else .onlooker)) ∧
        (r.point = .page → r'.request = r.request ++ [read] ∧ r'.part = .participant ∧ r'.slot = lookup t read) ∧
        (r.point = .field → r'.request = r.request ++ [read] ∧
          r'.part = (if malformed k (r.request ++ [read]) then .onlooker else .participant)) ∧
        (r.point = .check → r'.part = .participant ∧ r'.point = .void ∧ r'.checkGood = (crc8 r.request == read))) ∧
      (op ≠ .entry ∨ s.abandoned = none → t.slots = s.slots) ∧
      (∀ e rest, op = .entry → HeadInFlight s e rest →
        t.queue = { e with inFlight := false, gathered := withFlag .arbLost e.gathered } :: rest) ∧
      (∀ k' i, op = .upkeep k' i → UpkeepGoesOn s t (withFlag .arbLost 0)))

/-- R48: a participant whose request check failed drives the void bit, and one whose check was good reads it as the others drive
it; a frame whose void bit read driven ends at its closing with nothing changed at a participant. Its originator records VOID at
the bit, and at the closing counts one attempt of its entry, the third final (R66, R69, R90, R94, R139), or of its slot's recovery
(R122, R125, R129); an OFFER leaves seek due and its operation as they were (R78, R116). One whose entry was given up by ABANDON
discards it (R145). -/
def Obligations.VoidFrame : Prop :=
  let unchanged (s t : State) : Prop :=
    t.slots = s.slots ∧ t.store = s.store ∧ t.queue = s.queue ∧ t.outcome = s.outcome ∧ t.accrued = s.accrued ∧
    t.latches = s.latches
  (∀ (k : Kind) (prot others : Bool) (s : State) (r : FrameRecord), StandsAt s r k .void →
    r.part = .participant → s.arbiter.busyFor .frame = false →
    ∃ t r', exec (frameRow k prot [.bit others]) s = .next t ∧ t.frame = some r' ∧ unchanged s t ∧
      r'.part = .participant ∧ r'.voidRead = (!r.checkGood || others) ∧
      r'.point = (if !r.checkGood || others then .over else .presence)) ∧
  (∀ (k : Kind) (prot : Bool) (s : State) (r : FrameRecord), StandsAt s r k .over →
    r.part = .participant → r.voidRead = true → s.arbiter.busyFor .frame = false →
    ∃ t, exec (frameRow k prot [.closing]) s = .next t ∧ t.frame = none ∧ unchanged s t) ∧
  (∀ (k : Kind) (prot others : Bool) (s : State) (r : FrameRecord) (op : OpRef), StandsAt s r k .void →
    Originates s r op → s.arbiter.busyFor .frame = false →
    ∃ t r', exec (frameRow k prot [.bit others]) s = .next t ∧ t.frame = some r' ∧ r'.part = .originator ∧
      r'.voidRead = others ∧ r'.point = (if others then .over else .presence) ∧
      t.slots = s.slots ∧ t.store = s.store ∧ t.accrued = s.accrued ∧ t.latches = s.latches ∧
      (others = false → unchanged s t) ∧
      (others = true → t.outcome = { s.outcome with flags := s.outcome.flags ||| withFlag .void 0 } ∧
        (∀ k' i, op = .upkeep k' i → UpkeepGoesOn s t (withFlag .void 0)) ∧
        (∀ e rest, op = .entry → HeadInFlight s e rest →
          t.queue = { e with gathered := e.gathered ||| withFlag .void 0 } :: rest))) ∧
  (∀ (k : Kind) (prot : Bool) (s : State) (r : FrameRecord), StandsAt s r k .over → r.voidRead = true →
    k = .claim ∨ k = .release ∨ k = .write ∨ k = .read → Originates s r .entry → s.arbiter.busyFor .frame = false →
    ∃ t, exec (frameRow k prot [.closing]) s = .next t ∧ t.frame = none ∧ t.own = none ∧ t.marker = true ∧
      t.store = s.store ∧
      (∀ e rest, HeadInFlight s e rest → AttemptCounted s t e rest 0 .void 0 ∧
        (e.attempts = 0 ∨ e.attempts = 1 → t.slots = s.slots) ∧ (e.attempts = 2 → ClaimSlotFreed s t e)) ∧
      (∀ e, s.abandoned = some e → t.abandoned = none ∧ t.queue = s.queue ∧ t.result = s.result ∧
        t.faults = s.faults ∧ t.latches = s.latches ∧ EntryEnded s t e 0 ∧ ClaimSlotFreed s t e)) ∧
  (∀ (k : Kind) (prot : Bool) (s : State) (r : FrameRecord) (i : SlotIx), StandsAt s r k .over → r.voidRead = true →
    k = .verify ∨ k = .resync ∨ k = .repair ∨ k = .offer → Originates s r (.upkeep k i) →
    s.arbiter.busyFor .frame = false →
    let d := s.slot i
    ∃ t, exec (frameRow k prot [.closing]) s = .next t ∧ t.frame = none ∧ t.own = none ∧ t.marker = true ∧
      t.store = s.store ∧ t.latches = s.latches ∧ (∀ j, j ≠ i → t.slot j = s.slot j) ∧
      (k = .offer → t.slots = s.slots ∧ UpkeepGoesOn s t 0) ∧
      ((k = .verify ∧ d.state = .doubt) ∨ (k = .resync ∧ d.state = .stale) ∨ (k = .repair ∧ d.state = .primary) →
        t.slot i = d.triedOnceMore ∧ UpkeepTried s t d 0))

/-- R50, R51: in CLAIM, WRITE, READ and RESYNC a participant's MIRROR that reads presence undriven is promoted at the fill
bit, reported by ROLE and DEGRADED; its words, version and check are kept. -/
def Obligations.PromotionAtFill : Prop :=
  ∀ (k : Kind) (prot others : Bool) (s : State) (r : FrameRecord) (i : SlotIx),
    k = .claim ∨ k = .write ∨ k = .read ∨ k = .resync → StandsAt s r k .fill → r.part = .participant →
    r.presence = false → r.slot = some i → (s.slot i).state = .mirror → s.arbiter.busyFor .frame = false →
    ∃ t r', exec (frameRow k prot [.bit others]) s = .next t ∧ t.frame = some r' ∧ r'.fill = true ∧
      r'.point = .holder ∧
      t.slot i = (s.slot i).primaryWith s.straps.ms none (s.slot i).damaged ∧
      (∀ j, j ≠ i → t.slot j = s.slot j) ∧ t.store = s.store ∧
      t.latches = s.latches ||| (1#6 <<< 2) ∧ t.accrued = s.accrued ||| (1#6 <<< 3)

/-- R49: which slots drive the presence bit, and how it reads. R52, R53: the holder byte: alone, a driver is the holder and its slot
stays; against a lower number a PRIMARY is demoted behind the winner, in every kind but CLAIM, where a driver that stops keeps
its slot (R54). The demotion stands from the bit at which the station read 0 where it placed 1; until the byte is whole its
partner is the number read so far (log 40). -/
def Obligations.HolderContest : Prop :=
  (∀ (k : Kind) (prot others : Bool) (s : State) (r : FrameRecord) (i : SlotIx), StandsAt s r k .presence →
     r.slot = some i → s.arbiter.busyFor .frame = false →
     let st := (s.slot i).state
     let included := k = .repair ∨ k = .offer ∨ k = .write ∨ (k = .release ∧ r.reqMode = 0x01)
     let drives := (st = .primary ∧ (r.part = .participant ∨ included)) ∨
       (st = .doubt ∧ k = .claim ∧ r.part = .participant)
     ∃ t r', exec (frameRow k prot [.bit others]) s = .next t ∧ t.frame = some r' ∧ r'.point = .fill ∧
       t.slots = s.slots ∧ t.store = s.store ∧ t.latches = s.latches ∧
       (drives → r'.presence = true ∧ r'.roleDrive = .presence) ∧
       (¬ drives → r'.presence = others ∧ r'.roleDrive = .none)) ∧
  (∀ (k : Kind) (prot : Bool) (s : State) (r : FrameRecord) (i : SlotIx), StandsAt s r k .holder →
     r.part = .participant → r.roleDrive ≠ .none → r.contest = .notDriving → r.demoted = false → r.slot = some i →
     s.arbiter.busyFor .frame = false →
     (∃ t r', exec (frameRow k prot [.byte 0xFF]) s = .next t ∧ t.frame = some r' ∧
       r'.holder = some s.straps.number ∧ r'.contest = .won ∧ t.slots = s.slots ∧ t.store = s.store) ∧
     (∀ w : StationNo, w < s.straps.number →
       ∃ t r', exec (frameRow k prot [.byte (0#4 ++ w)]) s = .next t ∧ t.frame = some r' ∧
         r'.holder = some w ∧ r'.contest = .lost ∧ (∀ j, j ≠ i → t.slot j = s.slot j) ∧ t.store = s.store ∧
         (k ≠ .claim → (s.slot i).state = .primary → t.slot i = (s.slot i).staleBehind w ∧
           t.latches = s.latches ||| (1#6 <<< 2) ∧ t.accrued = s.accrued ||| (1#6 <<< 3)) ∧
         (k = .claim ∨ (s.slot i).state ≠ .primary →
           t.slot i = s.slot i ∧ t.latches = s.latches ∧ t.accrued = s.accrued))) ∧
  (∀ (k : Kind) (prot : Bool) (s : State) (r : FrameRecord) (i : SlotIx), k ≠ .claim → s.frame = some r →
     r.kindCode = some k.code → r.point = .holder → r.part = .participant → r.roleDrive ≠ .none →
     r.contest = .notDriving → r.slot = some i → (s.slot i).state = .primary → r.bits.length < 7 →
     (0#4 ++ s.straps.number : Byte).getLsbD (7 - r.bits.length) = true → s.arbiter.busyFor .frame = false →
     ∃ t r', exec (frameRow k prot [.bit true]) s = .next t ∧ t.frame = some r' ∧ r'.contest = .lost ∧
       t.slot i = (s.slot i).staleBehind ((byteOf (r.bits ++ [false])).extractLsb' 0 4) ∧
       (∀ j, j ≠ i → t.slot j = s.slot j) ∧ t.store = s.store ∧
       t.latches = s.latches ||| (1#6 <<< 2) ∧ t.accrued = s.accrued ||| (1#6 <<< 3))

/-! ### The frame kinds -/

/-- R120, R122: the originator's decision of a VERIFY at its closing with the flag of each row, its operation ended or tried
(R116; the ANSWERBAD of a failed check stands since the check, log 39), and the end of REJOIN with its last DOUBT slot (R131);
R121: the filling mirror's decision, where it won the holder byte. -/
def Obligations.VerifyDecisions : Prop :=
  (∀ (s : State) (r : FrameRecord) (i : SlotIx), StandsAt s r .verify .over → r.voidRead = false →
     Originates s r (.upkeep .verify i) → s.arbiter.busyFor .frame = false → (s.slot i).state = .doubt →
     let d := s.slot i
     ∃ t, exec (.verifyFrame [.closing]) s = .next t ∧ t.frame = none ∧ t.store = s.store ∧
       (∀ j, j ≠ i → t.slot j = s.slot j) ∧ t.latches = s.latches ∧
       (∀ h, r.holder = some h → r.answerCheck = some true → r.presence = true →
         t.slot i = d.staleBehind h ∧ UpkeepEnded s t (withFlag .demoted 0)) ∧
       (∀ m, r.holder = some m → r.answerCheck = some true → r.presence = false → r.fill = true →
         r.answerVersion ≤ d.version → t.slot i = d.primaryWith s.straps.ms (some m) d.damaged ∧
         UpkeepEnded s t (flagIf (r.answerVersion < d.version) .staleMirror)) ∧
       (∀ m, r.holder = some m → r.answerCheck = some true → r.presence = false → r.fill = true →
         d.version < r.answerVersion → t.slot i = d.staleBehind m ∧ UpkeepEnded s t (withFlag .demoted 0)) ∧
       (r.holder = none → r.presence = false → r.fill = false →
         t.slot i = d.primaryWith s.straps.ms d.partner d.damaged ∧ UpkeepEnded s t 0) ∧
       (∀ h, r.holder = some h → r.answerCheck ≠ some true → t.slot i = d.triedOnceMore ∧ UpkeepTried s t d 0) ∧
       (r.holder = none → r.presence = true ∨ r.fill = true →
         t.slot i = d.triedOnceMore ∧ UpkeepTried s t d (withFlag .answerBad 0)) ∧
       (s.station = .rejoin → (t.slot i).state ≠ .doubt → (∀ j, j ≠ i → (s.slot j).state ≠ .doubt) →
         t.station = .run) ∧
       (s.station ≠ .rejoin ∨ (∃ j, (t.slot j).state = .doubt) → t.station = s.station)) ∧
  (∀ (s : State) (r : FrameRecord) (i : SlotIx), StandsAt s r .verify .over → r.voidRead = false →
     r.part = .participant → r.roleDrive = .fill → r.contest = .won → r.slot = some i →
     s.arbiter.busyFor .frame = false → (s.slot i).state = .mirror →
     let d := s.slot i
     ∃ t, exec (.verifyFrame [.closing]) s = .next t ∧ t.frame = none ∧ t.store = s.store ∧
       (∀ j, j ≠ i → t.slot j = s.slot j) ∧
       (r.reqVersion < d.version → t.slot i = d.primaryWith s.straps.ms none d.damaged ∧
         t.latches = s.latches ||| (1#6 <<< 2) ∧ t.accrued = s.accrued ||| (1#6 <<< 3)) ∧
       (d.version < r.reqVersion → t.slot i =
         { d with state := .stale, damaged := false, seekDue := false, recoveryDue := true, attempts := 0 } ∧
         t.latches = s.latches ||| (1#6 <<< 2) ∧ t.accrued = s.accrued) ∧
       (d.version = r.reqVersion → t.slot i = d ∧ t.latches = s.latches))

/-- R123, R124: a RESYNC holder's accept bit: driven, and the originator recorded as partner, where the holder has none or has
that one (ROLE is set in that case too, log 21); else left undriven with nothing changed. R124, R125: the originator settles its
STALE slot at its closing, with the store idle, with the flag of each row and its operation ended or tried (R116); with no holder
there was neither accept bit nor answer (R55). That an accepted RESYNC with a check not good, or with PROT high, leaves the
recorded partner whichever station answered is the model's choice (log 37: R125 against R126). -/
def Obligations.ResyncDecisions : Prop :=
  (∀ (prot : Bool) (s : State) (r : FrameRecord) (i : SlotIx), StandsAt s r .resync .accept →
     r.contest = .won → r.slot = some i → (s.slot i).state = .primary → s.arbiter.busyFor .frame = false →
     ((s.slot i).partner = none ∨ (s.slot i).partner = some r.originator →
       ∃ t r', exec (.resyncFrame prot [.bit false]) s = .next t ∧ t.frame = some r' ∧ r'.choice = true ∧
         r'.point = .answer ∧
         t.slot i = { s.slot i with partner := some r.originator, seekDue := false } ∧
         (∀ j, j ≠ i → t.slot j = s.slot j) ∧ t.store = s.store ∧
         t.latches = s.latches ||| (1#6 <<< 2)) ∧
     ((s.slot i).partner ≠ none → (s.slot i).partner ≠ some r.originator →
       ∃ t r', exec (.resyncFrame prot [.bit false]) s = .next t ∧ t.frame = some r' ∧ r'.choice = false ∧
         r'.point = .over ∧ t.slots = s.slots ∧ t.store = s.store ∧ t.latches = s.latches)) ∧
  (∀ (prot : Bool) (s : State) (r : FrameRecord) (i : SlotIx), StandsAt s r .resync .over →
     r.voidRead = false → r.low = false → Originates s r (.upkeep .resync i) → StoreIdle s →
     (s.slot i).state = .stale → (r.holder = none → r.choice = false ∧ r.answerCheck = none) →
     let d := s.slot i
     ∃ t, exec (.resyncFrame prot [.closing]) s = .next t ∧ t.frame = none ∧
       (∀ j, j ≠ i → t.slot j = s.slot j) ∧ t.latches = s.latches ∧
       (∀ h, r.holder = some h → r.choice = true → r.answerCheck = some true → prot = false →
         t.slot i = { d with
           state := .mirror, partner := some h, version := r.answerVersion, check := r.streamCheck,
           damaged := false, seekDue := false, recoveryDue := false, attempts := 0 } ∧
         t.store = s.store.writeWords i 0 r.streamWords ∧ UpkeepEnded s t 0) ∧
       (∀ h, r.holder = some h → r.choice = true → r.answerCheck = some true → prot = true →
         t.slot i = d.triedOnceMore ∧ t.store = s.store ∧ UpkeepTried s t d (withFlag .prot 0)) ∧
       (∀ h, r.holder = some h → r.choice = true → r.answerCheck ≠ some true →
         t.slot i = d.triedOnceMore ∧ t.store = s.store ∧ UpkeepTried s t d 0) ∧
       (∀ h, r.holder = some h → r.choice = false →
         t.slot i = Slot.freed ∧ t.store = s.store ∧ UpkeepEnded s t (withFlag .refused 0)) ∧
       (r.holder = none → r.presence = false → r.fill = false →
         t.slot i = { d with attempts := 3, recoveryDue := false } ∧ t.store = s.store ∧
         UpkeepEnded s t (withFlag .noHolder 0)) ∧
       (r.holder = none → r.presence = true ∨ r.fill = true →
         t.slot i = d.triedOnceMore ∧ t.store = s.store ∧ UpkeepTried s t d (withFlag .answerBad 0)))

/-- R128, R129: the originator of a REPAIR that kept the holder byte settles its damaged slot at its closing, with the store idle:
a good load ends its operation; no source, a bad answer (ANSWERBAD stands since the check, log 39) or PROT counts a try (R116). -/
def Obligations.RepairSettlement : Prop :=
  ∀ (prot : Bool) (s : State) (r : FrameRecord) (i : SlotIx), StandsAt s r .repair .over →
    r.voidRead = false → r.low = false → Originates s r (.upkeep .repair i) → r.contest ≠ .lost → StoreIdle s →
    (s.slot i).state = .primary →
    let d := s.slot i
    let good := r.choice = true ∧ r.answerCheck = some true ∧ r.answerVersion = r.reqVersion
    ∃ t, exec (.repairFrame prot [.closing]) s = .next t ∧ t.frame = none ∧
      (∀ j, j ≠ i → t.slot j = s.slot j) ∧ t.latches = s.latches ∧
      (good → prot = false →
        t.slot i = { d with
          version := r.answerVersion, check := r.streamCheck, damaged := false, attempts := 0 } ∧
        t.store = s.store.writeWords i 0 r.streamWords ∧ UpkeepEnded s t 0) ∧
      (good → prot = true →
        t.slot i = d.triedOnceMore ∧ t.store = s.store ∧ UpkeepTried s t d (withFlag .prot 0)) ∧
      (¬ good → t.slot i = d.triedOnceMore ∧ t.store = s.store ∧ UpkeepTried s t d 0)

/-- R63 to R65: the originator of a CLAIM judges it at its closing, with the store idle: a new page, an adopted one, or HELD. Its
operation ends (R146, R147), with PROTECTED where PROT kept the fill back (log 20), and the result record is filled with DONE
(R140). -/
def Obligations.ClaimJudgement : Prop :=
  ∀ (prot : Bool) (s : State) (r : FrameRecord) (e : Entry) (rest : List Entry), StandsAt s r .claim .over →
    r.voidRead = false → r.low = false → Originates s r .entry → HeadInFlight s e rest → StoreIdle s →
    let granted := r.presence = false ∧ r.fill = false ∧ r.holderByte = 0xFF
    let completed (t : State) (m : ClaimMode) (code : Code) (page : PageId) (h : Option StationNo)
        (added : BitVec 16) : Prop :=
      t.queue = rest ∧ t.faults = s.faults ∧ t.latches = s.latches ||| (1#6 <<< 0) ∧ EntryEnded s t e added ∧
      t.result = some ⟨e.tag, .claim, some m, code, page, h, none, []⟩
    (∀ page i, e.body = .claim page .new (some i) → (s.slot i).state = .claiming → r.reqMode = 0x01 → granted →
      (prot = false → ∃ t, exec (.claimFrame prot [.closing]) s = .next t ∧
        t.slot i = { s.slot i with
          state := .primary, partner := none, version := 0, check := pageCheck 0 (List.replicate 128 0),
          damaged := false, seekDue := s.straps.ms, recoveryDue := false, attempts := 0 } ∧
        t.store = s.store.writeWords i 0 (List.replicate 128 0) ∧ (∀ j, j ≠ i → t.slot j = s.slot j) ∧
        completed t .new .granted page none 0 ∧ t.frame = none) ∧
      (prot = true → ∃ t, exec (.claimFrame prot [.closing]) s = .next t ∧ t.slot i = Slot.freed ∧
        t.store = s.store ∧ (∀ j, j ≠ i → t.slot j = s.slot j) ∧
        completed t .new .prot page none (withFlag .prot 0))) ∧
    (∀ page slot i, e.body = .claim page .adopt slot → r.slot = some i → (s.slot i).state = .stale →
      r.reqMode = 0x02 → granted →
      ∃ t, exec (.claimFrame prot [.closing]) s = .next t ∧
        t.slot i = (s.slot i).primaryWith s.straps.ms none false ∧ t.store = s.store ∧
        (∀ j, j ≠ i → t.slot j = s.slot j) ∧ completed t .adopt .granted page none 0) ∧
    (∀ page m slot, e.body = .claim page m slot → ¬ granted →
      ∃ t, exec (.claimFrame prot [.closing]) s = .next t ∧ t.store = s.store ∧
        completed t m .held page r.holder 0 ∧
        (∀ i, m = .new → slot = some i → (s.slot i).state = .claiming → t.slot i = Slot.freed) ∧
        (∀ j, (s.slot j).state ≠ .claiming → t.slot j = s.slot j))

/-- R68 to R70: the originator of a RELEASE, in either mode, at its closing after the drop bit or, for a LEAVE, after no holder,
which adds NOHOLDER; no upkeep operation stands beside its frame (R116). The other stations: a copy that drove the drop bit is
freed, the holder of a LEAVE that drove it loses its partner. A RESYNC operation left open on a copy so freed ends there, and the
outcome set is marked ended (log 46, the model's choice: R116 against R146). -/
def Obligations.ReleaseSettlement : Prop :=
  (∀ (s : State) (r : FrameRecord) (e : Entry) (rest : List Entry) (page : PageId) (i : SlotIx),
     StandsAt s r .release .over → r.voidRead = false → Originates s r .entry → HeadInFlight s e rest →
     e.body = .release page → r.slot = some i → s.arbiter.busyFor .frame = false →
     (r.reqMode = 0x01 → r.holder = some r.originator → (s.slot i).state = .primary →
       ∃ t, exec (.releaseFrame [.closing]) s = .next t ∧ t.slot i = Slot.freed ∧
         (∀ j, j ≠ i → t.slot j = s.slot j) ∧ t.store = s.store ∧ t.queue = rest ∧
         t.result = some ⟨e.tag, .release, none, .released, page, none, none, []⟩ ∧
         t.latches = s.latches ||| (1#6 <<< 0) ∧ (s.upkeep = none → EntryEnded s t e 0)) ∧
     (r.reqMode = 0x02 → (s.slot i).state = .mirror ∨ (s.slot i).state = .stale →
       ∃ t, exec (.releaseFrame [.closing]) s = .next t ∧ t.slot i = Slot.freed ∧
         (∀ j, j ≠ i → t.slot j = s.slot j) ∧ t.store = s.store ∧ t.queue = rest ∧
         t.result = some ⟨e.tag, .release, none, .left, page, none, none, []⟩ ∧
         t.latches = s.latches ||| (1#6 <<< 0) ∧
         (s.upkeep = none → EntryEnded s t e (flagIf r.holder.isNone .noHolder))) ∧
     (r.reqMode = 0x01 → r.holder ≠ some r.originator →
       ∃ t, exec (.releaseFrame [.closing]) s = .next t ∧ t.slots = s.slots ∧ t.store = s.store ∧
         t.queue = { e with inFlight := false } :: rest ∧ t.result = s.result ∧ t.outcome = s.outcome ∧
         t.accrued = s.accrued ∧ t.latches = s.latches)) ∧
  (∀ (s : State) (r : FrameRecord) (i : SlotIx), StandsAt s r .release .over → r.voidRead = false →
     r.part = .participant → r.slot = some i → r.choiceDriven = true → s.arbiter.busyFor .frame = false →
     (r.reqMode = 0x01 → (s.slot i).state = .mirror ∨ (s.slot i).state = .stale →
       ∃ t, exec (.releaseFrame [.closing]) s = .next t ∧ t.slot i = Slot.freed ∧
         (∀ j, j ≠ i → t.slot j = s.slot j) ∧ t.store = s.store ∧ t.latches = s.latches ||| (1#6 <<< 2) ∧
         ((s.upkeep.any fun op => op.slot == i) = false →
           t.upkeep = s.upkeep ∧ t.outcome = s.outcome ∧ t.accrued = s.accrued) ∧
         (∀ flags, s.upkeep = some ⟨.resync, i, flags⟩ → UpkeepEnded s t 0)) ∧
     (r.reqMode = 0x02 → (s.slot i).state = .primary →
       ∃ t, exec (.releaseFrame [.closing]) s = .next t ∧
         t.slot i = { s.slot i with partner := none, seekDue := s.straps.ms } ∧
         (∀ j, j ≠ i → t.slot j = s.slot j) ∧ t.store = s.store ∧
         t.latches = s.latches ||| (1#6 <<< 2) ∧ t.accrued = s.accrued ||| (1#6 <<< 3)))

/-- R75: an eligible station alone on the bid byte wins it with the bid of R75, and its lowest FREE slot becomes INCOMING. R77: at
the winner ACK bit the winner makes its page load, with the store idle, and drives the bit exactly where the check is good, the
version is the request's and PROT is low. R77, R78: at the closing the originator records the winner on ACK and else clears seek
due, with NOBIDDER or NOACK; its operation ends in each case, and where it lost the holder contest (DEMOTED stands since that
byte). The winner's slot becomes MIRROR where it made its load, and is freed else. -/
def Obligations.OfferBidAndOutcome : Prop :=
  (∀ (prot : Bool) (s : State) (r : FrameRecord) (page : PageId), StandsAt s r .offer .bid → r.low = false →
     r.page = some page → r.setAside = none → eligible r (readProt prot s) = true →
     s.arbiter.busyFor .frame = false →
     ∃ i t r', firstFree s = some i ∧ exec (.offerFrame prot [.byte 0xFF]) s = .next t ∧ t.frame = some r' ∧
       r'.bidByte = BitVec.ofNat 8 (16 * (15 - min (freeSlots s) 15) + s.straps.number.toNat) ∧
       r'.incoming = some i ∧
       t.slot i = ⟨.incoming, some page, some r.originator, 0, 0, false, false, false, 0⟩ ∧
       (∀ j, j ≠ i → t.slot j = s.slot j) ∧ t.store = s.store ∧ t.latches = s.latches ||| (1#6 <<< 2)) ∧
  (∀ (prot others : Bool) (s : State) (r : FrameRecord) (i : SlotIx), StandsAt s r .offer .winnerAck → r.low = false →
     r.incoming = some i → r.load = .none → (s.slot i).state = .incoming → StoreIdle s →
     let good := r.answerCheck = some true ∧ r.answerVersion = r.reqVersion ∧ prot = false
     ∃ t r', exec (.offerFrame prot [.bit others]) s = .next t ∧ t.frame = some r' ∧ r'.point = .over ∧
       (∀ j, j ≠ i → t.slot j = s.slot j) ∧
       (good → r'.ack = true ∧ r'.load = .requested ∧ t.store = s.store.writeWords i 0 r.streamWords ∧
         t.slot i = { s.slot i with version := r.answerVersion, check := r.streamCheck }) ∧
       (¬ good → r'.ack = others ∧ r'.load = .none ∧ t.store = s.store ∧ t.slot i = s.slot i)) ∧
  ((∀ (prot : Bool) (s : State) (r : FrameRecord) (i : SlotIx), StandsAt s r .offer .over → r.voidRead = false →
     Originates s r (.upkeep .offer i) → s.arbiter.busyFor .frame = false →
     ∃ t, exec (.offerFrame prot [.closing]) s = .next t ∧ t.store = s.store ∧ t.frame = none ∧
       t.latches = s.latches ∧ (∀ j, j ≠ i → t.slot j = s.slot j) ∧
       (r.holder = some r.originator → r.bidByte ≠ 0xFF → r.ack = true → UpkeepEnded s t 0 ∧
         ((s.slot i).state = .primary →
           t.slot i = { s.slot i with partner := some (r.bidByte.extractLsb' 0 4), seekDue := false })) ∧
       (r.holder = some r.originator → r.bidByte = 0xFF ∨ r.ack = false →
         UpkeepEnded s t (if r.bidByte = 0xFF then withFlag .noBidder 0 else withFlag .noAck 0) ∧
         ((s.slot i).state = .primary → t.slot i = { s.slot i with seekDue := false })) ∧
       (r.holder ≠ some r.originator → UpkeepEnded s t 0 ∧ t.slot i = s.slot i)) ∧
   (∀ (prot : Bool) (s : State) (r : FrameRecord) (i : SlotIx), StandsAt s r .offer .over → r.voidRead = false →
     r.part = .participant → r.incoming = some i → s.arbiter.busyFor .frame = false →
     (s.slot i).state = .incoming →
     ∃ t, exec (.offerFrame prot [.closing]) s = .next t ∧ t.store = s.store ∧ t.frame = none ∧
       (∀ j, j ≠ i → t.slot j = s.slot j) ∧ t.latches = s.latches ||| (1#6 <<< 2) ∧
       (r.load = .requested → t.slot i = { s.slot i with
         state := .mirror, partner := some r.originator, damaged := false, seekDue := false,
         recoveryDue := false, attempts := 0 }) ∧
       (r.load ≠ .requested → t.slot i = Slot.freed)))

/-- R83, R84: the holder of a WRITE decides its status at the first bit of the status byte, in the order of the table, and for
APPLIED, with the store idle, its words, version and check change as one; else nothing changes. R85: what it has to send from
there on is the status byte, for APPLIED the four bytes of the new version, and the check over them; byte after byte goes out.
R86: a mirror of the holder that meets the conditions of R86 applies the announced version at the ACK bit and drives it; any other
station leaves the bit and its slot as they are. R87: who drives the HOLD bit: a MIRROR of the holder that did not apply, and a
STALE copy of it. A slot turned STALE while its ACK write waited drives it though it applied, which is the model's choice (log 44:
R101, R86 and R44 against R11 and R87). -/
def Obligations.WriteHolderAndMirror : Prop :=
  (∀ (prot : Bool) (s : State) (r : FrameRecord) (i : SlotIx), StandsAt s r .write .answer → r.low = false →
     r.answer = [] → r.contest = .won → r.slot = some i → StoreIdle s →
     let d := s.slot i
     let past := 128 < r.reqOffset + r.reqCount
     let worn := d.version = 0xFFFFFFFF
     let status (st : BusStatus) (t : State) : Prop :=
       let b := writeStatusByte st d.partner.isSome
       let covered := if st = .applied then b :: versionBytes (d.version + 1) else [b]
       ∃ r', t.frame = some r' ∧ r'.status = some b ∧ r'.toSend = covered ++ [crc8 covered]
     ∃ t, exec (.writeFrame prot [.low]) s = .next t ∧ (∀ j, j ≠ i → t.slot j = s.slot j) ∧
       (past → status .range t) ∧
       (¬ past → prot = true → status .prot t) ∧
       (¬ past → prot = false → worn → status .worn t) ∧
       (past ∨ prot = true ∨ worn → t.slot i = d ∧ t.store = s.store) ∧
       (¬ past → prot = false → ¬ worn →
         status .applied t ∧ t.store = s.store.writeWords i r.reqOffset r.reqWords ∧
         t.slot i = { d with
           version := d.version + 1, check := pageCheck (d.version + 1) (t.store.page i) })) ∧
  (∀ (k : Kind) (prot : Bool) (s : State) (r : FrameRecord) (b : Byte) (tail : List Byte), StandsAt s r k .answer →
     r.toSend = b :: tail → tail ≠ [] → r.answer ≠ [] ∨ r.low = true → s.arbiter.busyFor .frame = false →
     ∃ t r', exec (frameRow k prot [.byte 0xFF]) s = .next t ∧ t.frame = some r' ∧ r'.answer = r.answer ++ [b] ∧
       r'.toSend = tail ∧ r'.point = (if tail.length = 1 then .answerCheck else .answer) ∧
       t.slots = s.slots ∧ t.store = s.store) ∧
  (∀ (s : State) (r : FrameRecord) (i : SlotIx) (h : StationNo), StandsAt s r .write .ack → r.low = false →
     r.slot = some i → r.holder = some h → r.contest = .notDriving → r.readApplied = true →
     r.answerCheck = some true → (s.slot i).state = .mirror → (s.slot i).partner = some h →
     (s.slot i).version ≠ 0xFFFFFFFF → r.announced = (s.slot i).version + 1 → StoreIdle s →
     ∃ t r', exec (.writeFrame false [.bit false]) s = .next t ∧ t.frame = some r' ∧ r'.ack = true ∧
       r'.point = .hold ∧ t.store = s.store.writeWords i r.reqOffset r.reqWords ∧
       t.slot i = { s.slot i with
         version := r.announced, check := pageCheck r.announced (t.store.page i) } ∧
       (∀ j, j ≠ i → t.slot j = s.slot j)) ∧
  ((∀ (prot others : Bool) (s : State) (r : FrameRecord) (i : SlotIx), StandsAt s r .write .ack → r.slot = some i →
     r.mirrorApply = false → s.arbiter.busyFor .frame = false →
     ¬ (r.readApplied = true ∧ r.contest ≠ .lost ∧ (s.slot i).state = .mirror ∧
       (∃ h, r.holder = some h ∧ (s.slot i).partner = some h) ∧ r.answerCheck = some true ∧
       (s.slot i).version ≠ 0xFFFFFFFF ∧ r.announced = (s.slot i).version + 1 ∧ prot = false) →
     ∃ t r', exec (.writeFrame prot [.bit others]) s = .next t ∧ t.frame = some r' ∧ r'.ack = others ∧
       r'.mirrorApply = false ∧ r'.point = .hold ∧ t.slots = s.slots ∧ t.store = s.store) ∧
   (∀ (prot others : Bool) (s : State) (r : FrameRecord) (i : SlotIx), StandsAt s r .write .hold → r.slot = some i →
     s.arbiter.busyFor .frame = false →
     let d := s.slot i
     let drives := r.readApplied = true ∧ r.contest = .notDriving ∧
       (∃ h, r.holder = some h ∧ d.partner = some h) ∧
       ((d.state = .mirror ∧ r.mirrorApply = false) ∨ d.state = .stale)
     ∃ t r', exec (.writeFrame prot [.bit others]) s = .next t ∧ t.frame = some r' ∧ r'.point = .over ∧
       t.slots = s.slots ∧ t.store = s.store ∧
       (drives → r'.hold = true ∧ r'.holdDriven = true) ∧
       (¬ drives → r'.hold = others ∧ r'.holdDriven = false)))

/-- R87 to R89: the slots at the closing of a WRITE, at a participant: where the status read APPLIED, a MIRROR that drove HOLD or
follows another station becomes STALE; a holder that answered APPLIED and read neither ACK nor HOLD loses its partner; a STALE
copy, a loser of the contest and every other slot stays as it is, and a holder that answered otherwise, whatever it read. A MIRROR
of another station becomes STALE whatever it judged of the answer check (log 36). -/
def Obligations.WriteClosing : Prop :=
  ∀ (prot : Bool) (s : State) (r : FrameRecord) (i : SlotIx) (h : StationNo), StandsAt s r .write .over →
    r.voidRead = false → r.part = .participant → r.slot = some i → r.holder = some h →
    s.arbiter.busyFor .frame = false →
    let d := s.slot i
    let answered := r.status.any fun b => b &&& 0x7F == 0x01
    ∃ t, exec (.writeFrame prot [.closing]) s = .next t ∧ t.frame = none ∧ t.store = s.store ∧
      (∀ j, j ≠ i → t.slot j = s.slot j) ∧
      (d.state = .mirror → r.contest = .notDriving → r.readApplied = true → d.partner = some h → r.holdDriven = true →
        t.slot i = d.staleBehind h ∧ t.latches = s.latches ||| (1#6 <<< 2) ∧ t.accrued = s.accrued) ∧
      (d.state = .mirror → r.contest = .notDriving → d.partner = some h → r.holdDriven = false →
        t.slot i = d ∧ t.latches = s.latches) ∧
      (d.state = .mirror → r.contest = .notDriving → r.readApplied = true → d.partner ≠ some h →
        t.slot i = d.staleBehind h ∧ t.latches = s.latches ||| (1#6 <<< 2)) ∧
      (d.state = .primary → r.contest = .won → answered = true → d.partner ≠ none → r.ack = false → r.hold = false →
        t.slot i = { d with partner := none, seekDue := s.straps.ms } ∧
        t.latches = s.latches ||| (1#6 <<< 2) ∧ t.accrued = s.accrued ||| (1#6 <<< 3)) ∧
      (d.state = .primary → r.contest = .won → answered = false ∨ r.ack = true ∨ r.hold = true ∨ d.partner = none →
        t.slot i = d ∧ t.latches = s.latches ∧ t.accrued = s.accrued) ∧
      (d.state = .mirror → r.readApplied = false → t.slot i = d ∧ t.latches = s.latches ∧ t.accrued = s.accrued) ∧
      (r.contest = .lost ∨ (d.state ≠ .mirror ∧ d.state ≠ .primary) ∨ (d.state = .primary ∧ r.contest ≠ .won) →
        t.slot i = d ∧ t.latches = s.latches ∧ t.accrued = s.accrued)

/-- R90, R139, R141, R150: the originator settles its WRITE at the closing: APPLIED leaves nothing; no holder and a refusal leave
a fault record with the next two WRITE entries for the page, taken out of the queue, and FAULT; a bad check or an unlisted status
(R185) counts an attempt, the third final. The flags of R90 are added: STALEMIRROR and UNMIRRORED by the final bits, NOHOLDER,
PROTECTED, WORN (VOID, TAKEOVER, DEMOTED and ANSWERBAD stand since their bits, logs 13 and 39); they reach the accrued set as the
entry ends (R147). R85: one that is itself the holder goes by its own decision, and does not check its own answer; R33: of two of
the same number that opened together each acts on what it read (which they are is told by the request part, log 41). Its own slot
changes only as R87 to R89 give: an originator that is the holder, answered APPLIED and read neither final bit loses its partner,
with ROLE; its MIRROR that drove HOLD or follows another station than the holder becomes STALE (log 36). R57: what it makes of the
answer check. -/
def Obligations.WriteOutcome : Prop :=
  (∀ (prot : Bool) (s : State) (r : FrameRecord) (e : Entry) (rest : List Entry) (page : PageId) (offset : Byte)
    (data : List Word), StandsAt s r .write .over → Originates s r .entry → HeadInFlight s e rest →
    e.body = .write page offset data → s.arbiter.busyFor .frame = false →
    let settled : Option Byte := if r.contest = .won ∧ r.alone = true then r.status else r.answer.head?
    let answered := r.status.any fun b => b &&& 0x7F == 0x01
    let parted : Bool := !r.voidRead && r.contest == .won && answered && !r.ack && !r.hold &&
      r.slot.any fun i => (s.slot i).state == .primary && (s.slot i).partner.isSome
    let role : BitVec 6 := if parted then 1#6 <<< 2 else 0
    let failed (cause : Code) (added : BitVec 16) (t : State) : Prop :=
      WriteFailed s t e rest cause role ∧ EntryEnded s t e added
    ∃ t, exec (.writeFrame prot [.closing]) s = .next t ∧ t.store = s.store ∧
      t.result = s.result ∧ t.frame = none ∧ t.marker = true ∧
      (r.slot = none → t.slots = s.slots) ∧
      (∀ i, r.slot = some i → let d := s.slot i
        (∀ j, j ≠ i → t.slot j = s.slot j) ∧
        (r.voidRead = true ∨ (d.state ≠ .mirror ∧ d.state ≠ .primary) → t.slot i = d) ∧
        (d.state = .mirror → r.readApplied = false → t.slot i = d) ∧
        (r.voidRead = false → d.state = .primary → r.contest = .won →
          (answered = true → d.partner ≠ none → r.ack = false → r.hold = false →
            t.slot i = { d with partner := none, seekDue := s.straps.ms }) ∧
          (answered = false ∨ d.partner = none ∨ r.ack = true ∨ r.hold = true → t.slot i = d)) ∧
        (d.state = .primary → r.contest ≠ .won → t.slot i = d) ∧
        (∀ h, r.voidRead = false → r.readApplied = true → d.state = .mirror → r.holder = some h →
          (r.contest = .notDriving → d.partner ≠ some h ∨ r.holdDriven = true → t.slot i = d.staleBehind h) ∧
          (r.contest ≠ .notDriving ∨ (d.partner = some h ∧ r.holdDriven = false) → t.slot i = d))) ∧
      (r.voidRead = true → AttemptCounted s t e rest 0 .void role) ∧
      (r.voidRead = false → r.holder = none → failed .noHolder (withFlag .noHolder 0) t) ∧
      (∀ h b, r.voidRead = false → r.holder = some h → settled = some b → r.answerCheck = some true →
        (b &&& 0x7F = 0x01 → t.queue = rest ∧ t.faults = s.faults ∧ t.latches = s.latches ||| role ∧
          EntryEnded s t e
            (flagIf r.hold .staleMirror ||| flagIf (b.msb && !r.ack && !r.hold) .unmirrored)) ∧
        (b &&& 0x7F = 0x02 → failed .prot (withFlag .prot 0) t) ∧
        (b &&& 0x7F = 0x03 → failed .worn (withFlag .worn 0) t) ∧
        (b &&& 0x7F = 0x04 → failed .range 0 t) ∧
        (b &&& 0x7F = 0 ∨ 4 < (b &&& 0x7F).toNat → AttemptCounted s t e rest 0 .answerBad role)) ∧
      (∀ h, r.voidRead = false → r.holder = some h → r.answerCheck = some false →
        AttemptCounted s t e rest 0 .answerBad role)) ∧
  (∀ (prot : Bool) (others : Byte) (s : State) (r : FrameRecord) (e : Entry) (rest : List Entry) (b : Byte),
    StandsAt s r .write .answerCheck → Originates s r .entry → HeadInFlight s e rest →
    s.arbiter.busyFor .frame = false →
    b &&& 0x7F = 0x01 ∨ b &&& 0x7F = 0x02 ∨ b &&& 0x7F = 0x03 ∨ b &&& 0x7F = 0x04 →
    ∃ t r', exec (.writeFrame prot [.byte others]) s = .next t ∧ t.frame = some r' ∧ r'.point = .ack ∧
      t.slots = s.slots ∧ t.store = s.store ∧
      (r.contest = .won → r.alone = true → r.status = some b → r.toSend ≠ [] →
        r'.answerCheck = some true ∧ t.queue = s.queue) ∧
      ((r.contest ≠ .won ∧ r.toSend = []) ∨ r.alone = false →
        (r.answer.head? = some b → crc8 r.answer = r.toSend.headD 0xFF &&& others →
          r'.answerCheck = some true ∧ t.queue = s.queue) ∧
        (crc8 r.answer ≠ r.toSend.headD 0xFF &&& others →
          r'.answerCheck = some false ∧ t.queue = { e with gathered := withFlag .answerBad e.gathered } :: rest))) ∧
  (∀ (k : Kind) (prot : Bool) (others own : Byte) (s : State) (r : FrameRecord) (op : OpRef) (request : List Byte),
    StandsAt s r k .check → r.part = .opener → s.own = some ⟨op, request⟩ → request[r.request.length]? = some own →
    s.arbiter.busyFor .frame = false → others = own ∨ others = 0xFF →
    ∃ t r', exec (frameRow k prot [.byte others]) s = .next t ∧ t.frame = some r' ∧ r'.part = .originator ∧
      r'.point = .void ∧ t.slots = s.slots ∧ t.store = s.store ∧ t.queue = s.queue ∧
      (others = own → r'.alone = r.alone) ∧ (others = 0xFF → own ≠ 0xFF → r'.alone = true))

/-- R92, R93: the holder of a READ takes a snapshot where the request stays in the page, and else answers RANGE; it changes no
slot and no word. When the snapshot has ended it sends OK, or DAMAGED for a damaged slot, the words and the check over them. R94,
R140, R142: the originator settles its READ at the closing into the result record with DONE, adding NOHOLDER or DAMAGED (TAKEOVER
and ANSWERBAD stand since their bits, logs 13 and 39), or counts an attempt, the third final. -/
def Obligations.ReadHolderAndOutcome : Prop :=
  (∀ (s : State) (r : FrameRecord) (i : SlotIx), StandsAt s r .read .answer → r.low = false → r.answer = [] →
     r.contest = .won → r.slot = some i → StoreIdle s →
     ∃ t r', exec (.readFrame [.low]) s = .next t ∧ t.frame = some r' ∧ t.slots = s.slots ∧ t.store = s.store ∧
       (128 < r.reqOffset + r.reqCount → r'.toSend = [0x04, crc8 [0x04]] ∧ t.arbiter = s.arbiter) ∧
       (r.reqOffset + r.reqCount ≤ 128 →
         t.arbiter.inProgress = some ⟨.frame, i, .snapshot, (s.slot i).page, (s.slot i).damaged, true⟩)) ∧
  (∀ (s : State) (r : FrameRecord) (i : SlotIx), StandsAt s r .read .answer → r.low = false → r.answer = [] →
     r.contest = .won → r.slot = some i → StoreIdle s → r.reqOffset + r.reqCount ≤ 128 →
     let b : Byte := if (s.slot i).damaged then 0x02 else 0x01
     let words := wordsBytes (((s.store.page i).drop r.reqOffset).take r.reqCount)
     ∃ t r', exec (.readFrame [.byte 0xFF]) s = .next t ∧ t.frame = some r' ∧ r'.answer = [b] ∧
       r'.toSend = words ++ [crc8 (b :: words)] ∧ r'.point = .answer ∧ t.slots = s.slots ∧ t.store = s.store ∧
       StoreIdle t) ∧
  (∀ (s : State) (r : FrameRecord) (e : Entry) (rest : List Entry) (page : PageId) (offset : Byte) (count : Nat),
     StandsAt s r .read .over → Originates s r .entry → HeadInFlight s e rest → r.voidRead = false →
     e.body = .read page offset count → s.arbiter.busyFor .frame = false →
     let completed (t : State) (code : Code) (status : Option Bool) (words : List Word) (added : BitVec 16) : Prop :=
       ResultFilled s t e rest code none status words 0 ∧ EntryEnded s t e added
     ∃ t, exec (.readFrame [.closing]) s = .next t ∧ t.slots = s.slots ∧ t.store = s.store ∧
       t.faults = s.faults ∧ t.frame = none ∧
       (r.holder = none → completed t .noHolder none [] (withFlag .noHolder 0)) ∧
       (∀ h b, r.holder = some h → r.answer.head? = some b → r.answerCheck = some true →
         (b &&& 0x7F = 0x01 → completed t .ok (some false) r.readWords 0) ∧
         (b &&& 0x7F = 0x02 → completed t .damaged (some true) r.readWords (withFlag .damaged 0)) ∧
         (b &&& 0x7F = 0x04 → completed t .range none [] 0) ∧
         (b &&& 0x7F ≠ 0x01 → b &&& 0x7F ≠ 0x02 → b &&& 0x7F ≠ 0x04 → AttemptCounted s t e rest 0 .answerBad 0)) ∧
       (∀ h, r.holder = some h → r.answerCheck = some false → AttemptCounted s t e rest 0 .answerBad 0))

/-- R46, R29: a header of a kind from 8 to 15 makes a participant an onlooker and clears the marker for another's number;
any closing ends the frame there with nothing changed. -/
def Obligations.UndefinedKind : Prop :=
  (∀ (low : BitVec 3) (o : StationNo) (s : State) (r : FrameRecord), s.frame = some r → r.point = .header →
    r.part = .participant → r.kindCode = none → r.bits = [] → s.arbiter.busyFor .frame = false →
    ∃ t r', exec (.undefinedKindFrame low [.header o]) s = .next t ∧ t.frame = some r' ∧ r'.part = .onlooker ∧
      r'.originator = o ∧ t.marker = (s.marker && o == s.straps.number) ∧ t.slots = s.slots ∧ t.store = s.store ∧
      t.queue = s.queue ∧ t.outcome = s.outcome) ∧
  (∀ (low : BitVec 3) (s : State) (r : FrameRecord), s.frame = some r → r.part = .onlooker →
    r.kindCode = some (1#1 ++ low) → s.arbiter.busyFor .frame = false →
    ∃ t, exec (.undefinedKindFrame low [.closing]) s = .next t ∧ t.frame = none ∧ t.gap = 0 ∧
      t.marker = s.marker ∧ t.slots = s.slots ∧ t.store = s.store ∧ t.queue = s.queue ∧ t.outcome = s.outcome ∧
      t.accrued = s.accrued ∧ t.latches = s.latches)

/-- R183, R184: the three checks on known bytes (a sanity statement). -/
def Obligations.CheckValues : Prop :=
  crc8 [] = 0xFF ∧ crc8 [0xFF] = 0x00 ∧ crc16 [] = 0xFFFF ∧
  crc16 [0x31, 0x32, 0x33, 0x34, 0x35, 0x36, 0x37, 0x38, 0x39] = 0x29B1

end Statements
end

