-- ==== Sys2Proof/Laws/State.lean ====
section
/-! SUPPORT. What each named update leaves as it was, field by field, and what it writes. -/

namespace Sys2Proof.Machine

/-! ### setSlot -/

@[simp] theorem setSlot_station (s : State) (i : SlotIx) (r : Slot) : (s.setSlot i r).station = s.station := rfl
@[simp] theorem setSlot_straps (s : State) (i : SlotIx) (r : Slot) : (s.setSlot i r).straps = s.straps := rfl
@[simp] theorem setSlot_startKind (s : State) (i : SlotIx) (r : Slot) : (s.setSlot i r).startKind = s.startKind := rfl
@[simp] theorem setSlot_clearing (s : State) (i : SlotIx) (r : Slot) : (s.setSlot i r).clearing = s.clearing := rfl
@[simp] theorem setSlot_vddGood (s : State) (i : SlotIx) (r : Slot) : (s.setSlot i r).vddGood = s.vddGood := rfl
@[simp] theorem setSlot_mark (s : State) (i : SlotIx) (r : Slot) : (s.setSlot i r).mark = s.mark := rfl
@[simp] theorem setSlot_prot (s : State) (i : SlotIx) (r : Slot) : (s.setSlot i r).prot = s.prot := rfl
@[simp] theorem setSlot_store (s : State) (i : SlotIx) (r : Slot) : (s.setSlot i r).store = s.store := rfl
@[simp] theorem setSlot_view (s : State) (i : SlotIx) (r : Slot) : (s.setSlot i r).view = s.view := rfl
@[simp] theorem setSlot_gap (s : State) (i : SlotIx) (r : Slot) : (s.setSlot i r).gap = s.gap := rfl
@[simp] theorem setSlot_stuck (s : State) (i : SlotIx) (r : Slot) : (s.setSlot i r).stuck = s.stuck := rfl
@[simp] theorem setSlot_marker (s : State) (i : SlotIx) (r : Slot) : (s.setSlot i r).marker = s.marker := rfl
@[simp] theorem setSlot_own (s : State) (i : SlotIx) (r : Slot) : (s.setSlot i r).own = s.own := rfl
@[simp] theorem setSlot_frame (s : State) (i : SlotIx) (r : Slot) : (s.setSlot i r).frame = s.frame := rfl
@[simp] theorem setSlot_scrubPtr (s : State) (i : SlotIx) (r : Slot) : (s.setSlot i r).scrubPtr = s.scrubPtr := rfl
@[simp] theorem setSlot_upkeep (s : State) (i : SlotIx) (r : Slot) : (s.setSlot i r).upkeep = s.upkeep := rfl
@[simp] theorem setSlot_queue (s : State) (i : SlotIx) (r : Slot) : (s.setSlot i r).queue = s.queue := rfl
@[simp] theorem setSlot_abandoned (s : State) (i : SlotIx) (r : Slot) : (s.setSlot i r).abandoned = s.abandoned := rfl
@[simp] theorem setSlot_nextTag (s : State) (i : SlotIx) (r : Slot) : (s.setSlot i r).nextTag = s.nextTag := rfl
@[simp] theorem setSlot_result (s : State) (i : SlotIx) (r : Slot) : (s.setSlot i r).result = s.result := rfl
@[simp] theorem setSlot_outcome (s : State) (i : SlotIx) (r : Slot) : (s.setSlot i r).outcome = s.outcome := rfl
@[simp] theorem setSlot_accrued (s : State) (i : SlotIx) (r : Slot) : (s.setSlot i r).accrued = s.accrued := rfl
@[simp] theorem setSlot_faults (s : State) (i : SlotIx) (r : Slot) : (s.setSlot i r).faults = s.faults := rfl
@[simp] theorem setSlot_editPage (s : State) (i : SlotIx) (r : Slot) : (s.setSlot i r).editPage = s.editPage := rfl
@[simp] theorem setSlot_editOffset (s : State) (i : SlotIx) (r : Slot) : (s.setSlot i r).editOffset = s.editOffset := rfl
@[simp] theorem setSlot_selHigh (s : State) (i : SlotIx) (r : Slot) : (s.setSlot i r).selHigh = s.selHigh := rfl
@[simp] theorem setSlot_txn (s : State) (i : SlotIx) (r : Slot) : (s.setSlot i r).txn = s.txn := rfl
@[simp] theorem setSlot_pointerPage (s : State) (i : SlotIx) (r : Slot) : (s.setSlot i r).pointerPage = s.pointerPage := rfl
@[simp] theorem setSlot_pointerWord (s : State) (i : SlotIx) (r : Slot) : (s.setSlot i r).pointerWord = s.pointerWord := rfl
@[simp] theorem setSlot_short (s : State) (i : SlotIx) (r : Slot) : (s.setSlot i r).short = s.short := rfl
@[simp] theorem setSlot_sdo (s : State) (i : SlotIx) (r : Slot) : (s.setSlot i r).sdo = s.sdo := rfl
@[simp] theorem setSlot_latches (s : State) (i : SlotIx) (r : Slot) : (s.setSlot i r).latches = s.latches := rfl
@[simp] theorem setSlot_enables (s : State) (i : SlotIx) (r : Slot) : (s.setSlot i r).enables = s.enables := rfl
@[simp] theorem setSlot_master (s : State) (i : SlotIx) (r : Slot) : (s.setSlot i r).master = s.master := rfl
@[simp] theorem setSlot_pending (s : State) (i : SlotIx) (r : Slot) : (s.setSlot i r).pending = s.pending := rfl

/-! ### setLatch -/

@[simp] theorem setLatch_station (s : State) (l : Latch) : (s.setLatch l).station = s.station := rfl
@[simp] theorem setLatch_straps (s : State) (l : Latch) : (s.setLatch l).straps = s.straps := rfl
@[simp] theorem setLatch_startKind (s : State) (l : Latch) : (s.setLatch l).startKind = s.startKind := rfl
@[simp] theorem setLatch_clearing (s : State) (l : Latch) : (s.setLatch l).clearing = s.clearing := rfl
@[simp] theorem setLatch_vddGood (s : State) (l : Latch) : (s.setLatch l).vddGood = s.vddGood := rfl
@[simp] theorem setLatch_mark (s : State) (l : Latch) : (s.setLatch l).mark = s.mark := rfl
@[simp] theorem setLatch_prot (s : State) (l : Latch) : (s.setLatch l).prot = s.prot := rfl
@[simp] theorem setLatch_slots (s : State) (l : Latch) : (s.setLatch l).slots = s.slots := rfl
@[simp] theorem setLatch_store (s : State) (l : Latch) : (s.setLatch l).store = s.store := rfl
@[simp] theorem setLatch_view (s : State) (l : Latch) : (s.setLatch l).view = s.view := rfl
@[simp] theorem setLatch_gap (s : State) (l : Latch) : (s.setLatch l).gap = s.gap := rfl
@[simp] theorem setLatch_stuck (s : State) (l : Latch) : (s.setLatch l).stuck = s.stuck := rfl
@[simp] theorem setLatch_marker (s : State) (l : Latch) : (s.setLatch l).marker = s.marker := rfl
@[simp] theorem setLatch_own (s : State) (l : Latch) : (s.setLatch l).own = s.own := rfl
@[simp] theorem setLatch_frame (s : State) (l : Latch) : (s.setLatch l).frame = s.frame := rfl
@[simp] theorem setLatch_arbiter (s : State) (l : Latch) : (s.setLatch l).arbiter = s.arbiter := rfl
@[simp] theorem setLatch_scrubPtr (s : State) (l : Latch) : (s.setLatch l).scrubPtr = s.scrubPtr := rfl
@[simp] theorem setLatch_upkeep (s : State) (l : Latch) : (s.setLatch l).upkeep = s.upkeep := rfl
@[simp] theorem setLatch_queue (s : State) (l : Latch) : (s.setLatch l).queue = s.queue := rfl
@[simp] theorem setLatch_abandoned (s : State) (l : Latch) : (s.setLatch l).abandoned = s.abandoned := rfl
@[simp] theorem setLatch_nextTag (s : State) (l : Latch) : (s.setLatch l).nextTag = s.nextTag := rfl
@[simp] theorem setLatch_result (s : State) (l : Latch) : (s.setLatch l).result = s.result := rfl
@[simp] theorem setLatch_outcome (s : State) (l : Latch) : (s.setLatch l).outcome = s.outcome := rfl
@[simp] theorem setLatch_accrued (s : State) (l : Latch) : (s.setLatch l).accrued = s.accrued := rfl
@[simp] theorem setLatch_faults (s : State) (l : Latch) : (s.setLatch l).faults = s.faults := rfl
@[simp] theorem setLatch_editPage (s : State) (l : Latch) : (s.setLatch l).editPage = s.editPage := rfl
@[simp] theorem setLatch_editOffset (s : State) (l : Latch) : (s.setLatch l).editOffset = s.editOffset := rfl
@[simp] theorem setLatch_selHigh (s : State) (l : Latch) : (s.setLatch l).selHigh = s.selHigh := rfl
@[simp] theorem setLatch_txn (s : State) (l : Latch) : (s.setLatch l).txn = s.txn := rfl
@[simp] theorem setLatch_pointerPage (s : State) (l : Latch) : (s.setLatch l).pointerPage = s.pointerPage := rfl
@[simp] theorem setLatch_pointerWord (s : State) (l : Latch) : (s.setLatch l).pointerWord = s.pointerWord := rfl
@[simp] theorem setLatch_short (s : State) (l : Latch) : (s.setLatch l).short = s.short := rfl
@[simp] theorem setLatch_sdo (s : State) (l : Latch) : (s.setLatch l).sdo = s.sdo := rfl
@[simp] theorem setLatch_enables (s : State) (l : Latch) : (s.setLatch l).enables = s.enables := rfl
@[simp] theorem setLatch_master (s : State) (l : Latch) : (s.setLatch l).master = s.master := rfl
@[simp] theorem setLatch_pending (s : State) (l : Latch) : (s.setLatch l).pending = s.pending := rfl

/-! ### accrue -/

@[simp] theorem accrue_station (s : State) (f : BitVec 6) : (s.accrue f).station = s.station := rfl
@[simp] theorem accrue_straps (s : State) (f : BitVec 6) : (s.accrue f).straps = s.straps := rfl
@[simp] theorem accrue_startKind (s : State) (f : BitVec 6) : (s.accrue f).startKind = s.startKind := rfl
@[simp] theorem accrue_clearing (s : State) (f : BitVec 6) : (s.accrue f).clearing = s.clearing := rfl
@[simp] theorem accrue_vddGood (s : State) (f : BitVec 6) : (s.accrue f).vddGood = s.vddGood := rfl
@[simp] theorem accrue_mark (s : State) (f : BitVec 6) : (s.accrue f).mark = s.mark := rfl
@[simp] theorem accrue_prot (s : State) (f : BitVec 6) : (s.accrue f).prot = s.prot := rfl
@[simp] theorem accrue_slots (s : State) (f : BitVec 6) : (s.accrue f).slots = s.slots := rfl
@[simp] theorem accrue_store (s : State) (f : BitVec 6) : (s.accrue f).store = s.store := rfl
@[simp] theorem accrue_view (s : State) (f : BitVec 6) : (s.accrue f).view = s.view := rfl
@[simp] theorem accrue_gap (s : State) (f : BitVec 6) : (s.accrue f).gap = s.gap := rfl
@[simp] theorem accrue_stuck (s : State) (f : BitVec 6) : (s.accrue f).stuck = s.stuck := rfl
@[simp] theorem accrue_marker (s : State) (f : BitVec 6) : (s.accrue f).marker = s.marker := rfl
@[simp] theorem accrue_own (s : State) (f : BitVec 6) : (s.accrue f).own = s.own := rfl
@[simp] theorem accrue_frame (s : State) (f : BitVec 6) : (s.accrue f).frame = s.frame := rfl
@[simp] theorem accrue_arbiter (s : State) (f : BitVec 6) : (s.accrue f).arbiter = s.arbiter := rfl
@[simp] theorem accrue_scrubPtr (s : State) (f : BitVec 6) : (s.accrue f).scrubPtr = s.scrubPtr := rfl
@[simp] theorem accrue_upkeep (s : State) (f : BitVec 6) : (s.accrue f).upkeep = s.upkeep := rfl
@[simp] theorem accrue_queue (s : State) (f : BitVec 6) : (s.accrue f).queue = s.queue := rfl
@[simp] theorem accrue_abandoned (s : State) (f : BitVec 6) : (s.accrue f).abandoned = s.abandoned := rfl
@[simp] theorem accrue_nextTag (s : State) (f : BitVec 6) : (s.accrue f).nextTag = s.nextTag := rfl
@[simp] theorem accrue_result (s : State) (f : BitVec 6) : (s.accrue f).result = s.result := rfl
@[simp] theorem accrue_outcome (s : State) (f : BitVec 6) : (s.accrue f).outcome = s.outcome := rfl
@[simp] theorem accrue_faults (s : State) (f : BitVec 6) : (s.accrue f).faults = s.faults := rfl
@[simp] theorem accrue_editPage (s : State) (f : BitVec 6) : (s.accrue f).editPage = s.editPage := rfl
@[simp] theorem accrue_editOffset (s : State) (f : BitVec 6) : (s.accrue f).editOffset = s.editOffset := rfl
@[simp] theorem accrue_selHigh (s : State) (f : BitVec 6) : (s.accrue f).selHigh = s.selHigh := rfl
@[simp] theorem accrue_txn (s : State) (f : BitVec 6) : (s.accrue f).txn = s.txn := rfl
@[simp] theorem accrue_pointerPage (s : State) (f : BitVec 6) : (s.accrue f).pointerPage = s.pointerPage := rfl
@[simp] theorem accrue_pointerWord (s : State) (f : BitVec 6) : (s.accrue f).pointerWord = s.pointerWord := rfl
@[simp] theorem accrue_short (s : State) (f : BitVec 6) : (s.accrue f).short = s.short := rfl
@[simp] theorem accrue_sdo (s : State) (f : BitVec 6) : (s.accrue f).sdo = s.sdo := rfl
@[simp] theorem accrue_latches (s : State) (f : BitVec 6) : (s.accrue f).latches = s.latches := rfl
@[simp] theorem accrue_enables (s : State) (f : BitVec 6) : (s.accrue f).enables = s.enables := rfl
@[simp] theorem accrue_master (s : State) (f : BitVec 6) : (s.accrue f).master = s.master := rfl
@[simp] theorem accrue_pending (s : State) (f : BitVec 6) : (s.accrue f).pending = s.pending := rfl

/-! ### withPending -/

@[simp] theorem withPending_station (s : State) (q : List Instr) : (s.withPending q).station = s.station := rfl
@[simp] theorem withPending_straps (s : State) (q : List Instr) : (s.withPending q).straps = s.straps := rfl
@[simp] theorem withPending_startKind (s : State) (q : List Instr) : (s.withPending q).startKind = s.startKind := rfl
@[simp] theorem withPending_clearing (s : State) (q : List Instr) : (s.withPending q).clearing = s.clearing := rfl
@[simp] theorem withPending_vddGood (s : State) (q : List Instr) : (s.withPending q).vddGood = s.vddGood := rfl
@[simp] theorem withPending_mark (s : State) (q : List Instr) : (s.withPending q).mark = s.mark := rfl
@[simp] theorem withPending_prot (s : State) (q : List Instr) : (s.withPending q).prot = s.prot := rfl
@[simp] theorem withPending_slots (s : State) (q : List Instr) : (s.withPending q).slots = s.slots := rfl
@[simp] theorem withPending_store (s : State) (q : List Instr) : (s.withPending q).store = s.store := rfl
@[simp] theorem withPending_view (s : State) (q : List Instr) : (s.withPending q).view = s.view := rfl
@[simp] theorem withPending_gap (s : State) (q : List Instr) : (s.withPending q).gap = s.gap := rfl
@[simp] theorem withPending_stuck (s : State) (q : List Instr) : (s.withPending q).stuck = s.stuck := rfl
@[simp] theorem withPending_marker (s : State) (q : List Instr) : (s.withPending q).marker = s.marker := rfl
@[simp] theorem withPending_own (s : State) (q : List Instr) : (s.withPending q).own = s.own := rfl
@[simp] theorem withPending_frame (s : State) (q : List Instr) : (s.withPending q).frame = s.frame := rfl
@[simp] theorem withPending_arbiter (s : State) (q : List Instr) : (s.withPending q).arbiter = s.arbiter := rfl
@[simp] theorem withPending_scrubPtr (s : State) (q : List Instr) : (s.withPending q).scrubPtr = s.scrubPtr := rfl
@[simp] theorem withPending_upkeep (s : State) (q : List Instr) : (s.withPending q).upkeep = s.upkeep := rfl
@[simp] theorem withPending_queue (s : State) (q : List Instr) : (s.withPending q).queue = s.queue := rfl
@[simp] theorem withPending_abandoned (s : State) (q : List Instr) : (s.withPending q).abandoned = s.abandoned := rfl
@[simp] theorem withPending_nextTag (s : State) (q : List Instr) : (s.withPending q).nextTag = s.nextTag := rfl
@[simp] theorem withPending_result (s : State) (q : List Instr) : (s.withPending q).result = s.result := rfl
@[simp] theorem withPending_outcome (s : State) (q : List Instr) : (s.withPending q).outcome = s.outcome := rfl
@[simp] theorem withPending_accrued (s : State) (q : List Instr) : (s.withPending q).accrued = s.accrued := rfl
@[simp] theorem withPending_faults (s : State) (q : List Instr) : (s.withPending q).faults = s.faults := rfl
@[simp] theorem withPending_editPage (s : State) (q : List Instr) : (s.withPending q).editPage = s.editPage := rfl
@[simp] theorem withPending_editOffset (s : State) (q : List Instr) : (s.withPending q).editOffset = s.editOffset := rfl
@[simp] theorem withPending_selHigh (s : State) (q : List Instr) : (s.withPending q).selHigh = s.selHigh := rfl
@[simp] theorem withPending_txn (s : State) (q : List Instr) : (s.withPending q).txn = s.txn := rfl
@[simp] theorem withPending_pointerPage (s : State) (q : List Instr) : (s.withPending q).pointerPage = s.pointerPage := rfl
@[simp] theorem withPending_pointerWord (s : State) (q : List Instr) : (s.withPending q).pointerWord = s.pointerWord := rfl
@[simp] theorem withPending_short (s : State) (q : List Instr) : (s.withPending q).short = s.short := rfl
@[simp] theorem withPending_sdo (s : State) (q : List Instr) : (s.withPending q).sdo = s.sdo := rfl
@[simp] theorem withPending_latches (s : State) (q : List Instr) : (s.withPending q).latches = s.latches := rfl
@[simp] theorem withPending_enables (s : State) (q : List Instr) : (s.withPending q).enables = s.enables := rfl
@[simp] theorem withPending_master (s : State) (q : List Instr) : (s.withPending q).master = s.master := rfl

/-! ### readProt -/

@[simp] theorem readProt_station (b : Bool) (s : State) : (readProt b s).station = s.station := rfl
@[simp] theorem readProt_straps (b : Bool) (s : State) : (readProt b s).straps = s.straps := rfl
@[simp] theorem readProt_startKind (b : Bool) (s : State) : (readProt b s).startKind = s.startKind := rfl
@[simp] theorem readProt_clearing (b : Bool) (s : State) : (readProt b s).clearing = s.clearing := rfl
@[simp] theorem readProt_vddGood (b : Bool) (s : State) : (readProt b s).vddGood = s.vddGood := rfl
@[simp] theorem readProt_mark (b : Bool) (s : State) : (readProt b s).mark = s.mark := rfl
@[simp] theorem readProt_slots (b : Bool) (s : State) : (readProt b s).slots = s.slots := rfl
@[simp] theorem readProt_store (b : Bool) (s : State) : (readProt b s).store = s.store := rfl
@[simp] theorem readProt_view (b : Bool) (s : State) : (readProt b s).view = s.view := rfl
@[simp] theorem readProt_gap (b : Bool) (s : State) : (readProt b s).gap = s.gap := rfl
@[simp] theorem readProt_stuck (b : Bool) (s : State) : (readProt b s).stuck = s.stuck := rfl
@[simp] theorem readProt_marker (b : Bool) (s : State) : (readProt b s).marker = s.marker := rfl
@[simp] theorem readProt_own (b : Bool) (s : State) : (readProt b s).own = s.own := rfl
@[simp] theorem readProt_frame (b : Bool) (s : State) : (readProt b s).frame = s.frame := rfl
@[simp] theorem readProt_arbiter (b : Bool) (s : State) : (readProt b s).arbiter = s.arbiter := rfl
@[simp] theorem readProt_scrubPtr (b : Bool) (s : State) : (readProt b s).scrubPtr = s.scrubPtr := rfl
@[simp] theorem readProt_upkeep (b : Bool) (s : State) : (readProt b s).upkeep = s.upkeep := rfl
@[simp] theorem readProt_queue (b : Bool) (s : State) : (readProt b s).queue = s.queue := rfl
@[simp] theorem readProt_abandoned (b : Bool) (s : State) : (readProt b s).abandoned = s.abandoned := rfl
@[simp] theorem readProt_nextTag (b : Bool) (s : State) : (readProt b s).nextTag = s.nextTag := rfl
@[simp] theorem readProt_result (b : Bool) (s : State) : (readProt b s).result = s.result := rfl
@[simp] theorem readProt_outcome (b : Bool) (s : State) : (readProt b s).outcome = s.outcome := rfl
@[simp] theorem readProt_accrued (b : Bool) (s : State) : (readProt b s).accrued = s.accrued := rfl
@[simp] theorem readProt_faults (b : Bool) (s : State) : (readProt b s).faults = s.faults := rfl
@[simp] theorem readProt_editPage (b : Bool) (s : State) : (readProt b s).editPage = s.editPage := rfl
@[simp] theorem readProt_editOffset (b : Bool) (s : State) : (readProt b s).editOffset = s.editOffset := rfl
@[simp] theorem readProt_selHigh (b : Bool) (s : State) : (readProt b s).selHigh = s.selHigh := rfl
@[simp] theorem readProt_txn (b : Bool) (s : State) : (readProt b s).txn = s.txn := rfl
@[simp] theorem readProt_pointerPage (b : Bool) (s : State) : (readProt b s).pointerPage = s.pointerPage := rfl
@[simp] theorem readProt_pointerWord (b : Bool) (s : State) : (readProt b s).pointerWord = s.pointerWord := rfl
@[simp] theorem readProt_short (b : Bool) (s : State) : (readProt b s).short = s.short := rfl
@[simp] theorem readProt_sdo (b : Bool) (s : State) : (readProt b s).sdo = s.sdo := rfl
@[simp] theorem readProt_latches (b : Bool) (s : State) : (readProt b s).latches = s.latches := rfl
@[simp] theorem readProt_enables (b : Bool) (s : State) : (readProt b s).enables = s.enables := rfl
@[simp] theorem readProt_master (b : Bool) (s : State) : (readProt b s).master = s.master := rfl
@[simp] theorem readProt_pending (b : Bool) (s : State) : (readProt b s).pending = s.pending := rfl

/-! ### modifyFrame -/

@[simp] theorem modifyFrame_station (f : FrameRecord → FrameRecord) (s : State) : (modifyFrame f s).station = s.station := rfl
@[simp] theorem modifyFrame_straps (f : FrameRecord → FrameRecord) (s : State) : (modifyFrame f s).straps = s.straps := rfl
@[simp] theorem modifyFrame_startKind (f : FrameRecord → FrameRecord) (s : State) : (modifyFrame f s).startKind = s.startKind := rfl
@[simp] theorem modifyFrame_clearing (f : FrameRecord → FrameRecord) (s : State) : (modifyFrame f s).clearing = s.clearing := rfl
@[simp] theorem modifyFrame_vddGood (f : FrameRecord → FrameRecord) (s : State) : (modifyFrame f s).vddGood = s.vddGood := rfl
@[simp] theorem modifyFrame_mark (f : FrameRecord → FrameRecord) (s : State) : (modifyFrame f s).mark = s.mark := rfl
@[simp] theorem modifyFrame_prot (f : FrameRecord → FrameRecord) (s : State) : (modifyFrame f s).prot = s.prot := rfl
@[simp] theorem modifyFrame_slots (f : FrameRecord → FrameRecord) (s : State) : (modifyFrame f s).slots = s.slots := rfl
@[simp] theorem modifyFrame_store (f : FrameRecord → FrameRecord) (s : State) : (modifyFrame f s).store = s.store := rfl
@[simp] theorem modifyFrame_view (f : FrameRecord → FrameRecord) (s : State) : (modifyFrame f s).view = s.view := rfl
@[simp] theorem modifyFrame_gap (f : FrameRecord → FrameRecord) (s : State) : (modifyFrame f s).gap = s.gap := rfl
@[simp] theorem modifyFrame_stuck (f : FrameRecord → FrameRecord) (s : State) : (modifyFrame f s).stuck = s.stuck := rfl
@[simp] theorem modifyFrame_marker (f : FrameRecord → FrameRecord) (s : State) : (modifyFrame f s).marker = s.marker := rfl
@[simp] theorem modifyFrame_own (f : FrameRecord → FrameRecord) (s : State) : (modifyFrame f s).own = s.own := rfl
@[simp] theorem modifyFrame_arbiter (f : FrameRecord → FrameRecord) (s : State) : (modifyFrame f s).arbiter = s.arbiter := rfl
@[simp] theorem modifyFrame_scrubPtr (f : FrameRecord → FrameRecord) (s : State) : (modifyFrame f s).scrubPtr = s.scrubPtr := rfl
@[simp] theorem modifyFrame_upkeep (f : FrameRecord → FrameRecord) (s : State) : (modifyFrame f s).upkeep = s.upkeep := rfl
@[simp] theorem modifyFrame_queue (f : FrameRecord → FrameRecord) (s : State) : (modifyFrame f s).queue = s.queue := rfl
@[simp] theorem modifyFrame_abandoned (f : FrameRecord → FrameRecord) (s : State) : (modifyFrame f s).abandoned = s.abandoned := rfl
@[simp] theorem modifyFrame_nextTag (f : FrameRecord → FrameRecord) (s : State) : (modifyFrame f s).nextTag = s.nextTag := rfl
@[simp] theorem modifyFrame_result (f : FrameRecord → FrameRecord) (s : State) : (modifyFrame f s).result = s.result := rfl
@[simp] theorem modifyFrame_outcome (f : FrameRecord → FrameRecord) (s : State) : (modifyFrame f s).outcome = s.outcome := rfl
@[simp] theorem modifyFrame_accrued (f : FrameRecord → FrameRecord) (s : State) : (modifyFrame f s).accrued = s.accrued := rfl
@[simp] theorem modifyFrame_faults (f : FrameRecord → FrameRecord) (s : State) : (modifyFrame f s).faults = s.faults := rfl
@[simp] theorem modifyFrame_editPage (f : FrameRecord → FrameRecord) (s : State) : (modifyFrame f s).editPage = s.editPage := rfl
@[simp] theorem modifyFrame_editOffset (f : FrameRecord → FrameRecord) (s : State) : (modifyFrame f s).editOffset = s.editOffset := rfl
@[simp] theorem modifyFrame_selHigh (f : FrameRecord → FrameRecord) (s : State) : (modifyFrame f s).selHigh = s.selHigh := rfl
@[simp] theorem modifyFrame_txn (f : FrameRecord → FrameRecord) (s : State) : (modifyFrame f s).txn = s.txn := rfl
@[simp] theorem modifyFrame_pointerPage (f : FrameRecord → FrameRecord) (s : State) : (modifyFrame f s).pointerPage = s.pointerPage := rfl
@[simp] theorem modifyFrame_pointerWord (f : FrameRecord → FrameRecord) (s : State) : (modifyFrame f s).pointerWord = s.pointerWord := rfl
@[simp] theorem modifyFrame_short (f : FrameRecord → FrameRecord) (s : State) : (modifyFrame f s).short = s.short := rfl
@[simp] theorem modifyFrame_sdo (f : FrameRecord → FrameRecord) (s : State) : (modifyFrame f s).sdo = s.sdo := rfl
@[simp] theorem modifyFrame_latches (f : FrameRecord → FrameRecord) (s : State) : (modifyFrame f s).latches = s.latches := rfl
@[simp] theorem modifyFrame_enables (f : FrameRecord → FrameRecord) (s : State) : (modifyFrame f s).enables = s.enables := rfl
@[simp] theorem modifyFrame_master (f : FrameRecord → FrameRecord) (s : State) : (modifyFrame f s).master = s.master := rfl
@[simp] theorem modifyFrame_pending (f : FrameRecord → FrameRecord) (s : State) : (modifyFrame f s).pending = s.pending := rfl

/-! ### modifyTxn -/

@[simp] theorem modifyTxn_station (f : Transaction → Transaction) (s : State) : (modifyTxn f s).station = s.station := rfl
@[simp] theorem modifyTxn_straps (f : Transaction → Transaction) (s : State) : (modifyTxn f s).straps = s.straps := rfl
@[simp] theorem modifyTxn_startKind (f : Transaction → Transaction) (s : State) : (modifyTxn f s).startKind = s.startKind := rfl
@[simp] theorem modifyTxn_clearing (f : Transaction → Transaction) (s : State) : (modifyTxn f s).clearing = s.clearing := rfl
@[simp] theorem modifyTxn_vddGood (f : Transaction → Transaction) (s : State) : (modifyTxn f s).vddGood = s.vddGood := rfl
@[simp] theorem modifyTxn_mark (f : Transaction → Transaction) (s : State) : (modifyTxn f s).mark = s.mark := rfl
@[simp] theorem modifyTxn_prot (f : Transaction → Transaction) (s : State) : (modifyTxn f s).prot = s.prot := rfl
@[simp] theorem modifyTxn_slots (f : Transaction → Transaction) (s : State) : (modifyTxn f s).slots = s.slots := rfl
@[simp] theorem modifyTxn_store (f : Transaction → Transaction) (s : State) : (modifyTxn f s).store = s.store := rfl
@[simp] theorem modifyTxn_view (f : Transaction → Transaction) (s : State) : (modifyTxn f s).view = s.view := rfl
@[simp] theorem modifyTxn_gap (f : Transaction → Transaction) (s : State) : (modifyTxn f s).gap = s.gap := rfl
@[simp] theorem modifyTxn_stuck (f : Transaction → Transaction) (s : State) : (modifyTxn f s).stuck = s.stuck := rfl
@[simp] theorem modifyTxn_marker (f : Transaction → Transaction) (s : State) : (modifyTxn f s).marker = s.marker := rfl
@[simp] theorem modifyTxn_own (f : Transaction → Transaction) (s : State) : (modifyTxn f s).own = s.own := rfl
@[simp] theorem modifyTxn_frame (f : Transaction → Transaction) (s : State) : (modifyTxn f s).frame = s.frame := rfl
@[simp] theorem modifyTxn_arbiter (f : Transaction → Transaction) (s : State) : (modifyTxn f s).arbiter = s.arbiter := rfl
@[simp] theorem modifyTxn_scrubPtr (f : Transaction → Transaction) (s : State) : (modifyTxn f s).scrubPtr = s.scrubPtr := rfl
@[simp] theorem modifyTxn_upkeep (f : Transaction → Transaction) (s : State) : (modifyTxn f s).upkeep = s.upkeep := rfl
@[simp] theorem modifyTxn_queue (f : Transaction → Transaction) (s : State) : (modifyTxn f s).queue = s.queue := rfl
@[simp] theorem modifyTxn_abandoned (f : Transaction → Transaction) (s : State) : (modifyTxn f s).abandoned = s.abandoned := rfl
@[simp] theorem modifyTxn_nextTag (f : Transaction → Transaction) (s : State) : (modifyTxn f s).nextTag = s.nextTag := rfl
@[simp] theorem modifyTxn_result (f : Transaction → Transaction) (s : State) : (modifyTxn f s).result = s.result := rfl
@[simp] theorem modifyTxn_outcome (f : Transaction → Transaction) (s : State) : (modifyTxn f s).outcome = s.outcome := rfl
@[simp] theorem modifyTxn_accrued (f : Transaction → Transaction) (s : State) : (modifyTxn f s).accrued = s.accrued := rfl
@[simp] theorem modifyTxn_faults (f : Transaction → Transaction) (s : State) : (modifyTxn f s).faults = s.faults := rfl
@[simp] theorem modifyTxn_editPage (f : Transaction → Transaction) (s : State) : (modifyTxn f s).editPage = s.editPage := rfl
@[simp] theorem modifyTxn_editOffset (f : Transaction → Transaction) (s : State) : (modifyTxn f s).editOffset = s.editOffset := rfl
@[simp] theorem modifyTxn_selHigh (f : Transaction → Transaction) (s : State) : (modifyTxn f s).selHigh = s.selHigh := rfl
@[simp] theorem modifyTxn_pointerPage (f : Transaction → Transaction) (s : State) : (modifyTxn f s).pointerPage = s.pointerPage := rfl
@[simp] theorem modifyTxn_pointerWord (f : Transaction → Transaction) (s : State) : (modifyTxn f s).pointerWord = s.pointerWord := rfl
@[simp] theorem modifyTxn_short (f : Transaction → Transaction) (s : State) : (modifyTxn f s).short = s.short := rfl
@[simp] theorem modifyTxn_sdo (f : Transaction → Transaction) (s : State) : (modifyTxn f s).sdo = s.sdo := rfl
@[simp] theorem modifyTxn_latches (f : Transaction → Transaction) (s : State) : (modifyTxn f s).latches = s.latches := rfl
@[simp] theorem modifyTxn_enables (f : Transaction → Transaction) (s : State) : (modifyTxn f s).enables = s.enables := rfl
@[simp] theorem modifyTxn_master (f : Transaction → Transaction) (s : State) : (modifyTxn f s).master = s.master := rfl
@[simp] theorem modifyTxn_pending (f : Transaction → Transaction) (s : State) : (modifyTxn f s).pending = s.pending := rfl

/-! ### reply -/

@[simp] theorem reply_station (st : Status) (d : List Byte) (s : State) : (reply st d s).station = s.station := rfl
@[simp] theorem reply_straps (st : Status) (d : List Byte) (s : State) : (reply st d s).straps = s.straps := rfl
@[simp] theorem reply_startKind (st : Status) (d : List Byte) (s : State) : (reply st d s).startKind = s.startKind := rfl
@[simp] theorem reply_clearing (st : Status) (d : List Byte) (s : State) : (reply st d s).clearing = s.clearing := rfl
@[simp] theorem reply_vddGood (st : Status) (d : List Byte) (s : State) : (reply st d s).vddGood = s.vddGood := rfl
@[simp] theorem reply_mark (st : Status) (d : List Byte) (s : State) : (reply st d s).mark = s.mark := rfl
@[simp] theorem reply_prot (st : Status) (d : List Byte) (s : State) : (reply st d s).prot = s.prot := rfl
@[simp] theorem reply_slots (st : Status) (d : List Byte) (s : State) : (reply st d s).slots = s.slots := rfl
@[simp] theorem reply_store (st : Status) (d : List Byte) (s : State) : (reply st d s).store = s.store := rfl
@[simp] theorem reply_view (st : Status) (d : List Byte) (s : State) : (reply st d s).view = s.view := rfl
@[simp] theorem reply_gap (st : Status) (d : List Byte) (s : State) : (reply st d s).gap = s.gap := rfl
@[simp] theorem reply_stuck (st : Status) (d : List Byte) (s : State) : (reply st d s).stuck = s.stuck := rfl
@[simp] theorem reply_marker (st : Status) (d : List Byte) (s : State) : (reply st d s).marker = s.marker := rfl
@[simp] theorem reply_own (st : Status) (d : List Byte) (s : State) : (reply st d s).own = s.own := rfl
@[simp] theorem reply_frame (st : Status) (d : List Byte) (s : State) : (reply st d s).frame = s.frame := rfl
@[simp] theorem reply_arbiter (st : Status) (d : List Byte) (s : State) : (reply st d s).arbiter = s.arbiter := rfl
@[simp] theorem reply_scrubPtr (st : Status) (d : List Byte) (s : State) : (reply st d s).scrubPtr = s.scrubPtr := rfl
@[simp] theorem reply_upkeep (st : Status) (d : List Byte) (s : State) : (reply st d s).upkeep = s.upkeep := rfl
@[simp] theorem reply_queue (st : Status) (d : List Byte) (s : State) : (reply st d s).queue = s.queue := rfl
@[simp] theorem reply_abandoned (st : Status) (d : List Byte) (s : State) : (reply st d s).abandoned = s.abandoned := rfl
@[simp] theorem reply_nextTag (st : Status) (d : List Byte) (s : State) : (reply st d s).nextTag = s.nextTag := rfl
@[simp] theorem reply_result (st : Status) (d : List Byte) (s : State) : (reply st d s).result = s.result := rfl
@[simp] theorem reply_outcome (st : Status) (d : List Byte) (s : State) : (reply st d s).outcome = s.outcome := rfl
@[simp] theorem reply_accrued (st : Status) (d : List Byte) (s : State) : (reply st d s).accrued = s.accrued := rfl
@[simp] theorem reply_faults (st : Status) (d : List Byte) (s : State) : (reply st d s).faults = s.faults := rfl
@[simp] theorem reply_editPage (st : Status) (d : List Byte) (s : State) : (reply st d s).editPage = s.editPage := rfl
@[simp] theorem reply_editOffset (st : Status) (d : List Byte) (s : State) : (reply st d s).editOffset = s.editOffset := rfl
@[simp] theorem reply_selHigh (st : Status) (d : List Byte) (s : State) : (reply st d s).selHigh = s.selHigh := rfl
@[simp] theorem reply_pointerPage (st : Status) (d : List Byte) (s : State) : (reply st d s).pointerPage = s.pointerPage := rfl
@[simp] theorem reply_pointerWord (st : Status) (d : List Byte) (s : State) : (reply st d s).pointerWord = s.pointerWord := rfl
@[simp] theorem reply_short (st : Status) (d : List Byte) (s : State) : (reply st d s).short = s.short := rfl
@[simp] theorem reply_sdo (st : Status) (d : List Byte) (s : State) : (reply st d s).sdo = s.sdo := rfl
@[simp] theorem reply_latches (st : Status) (d : List Byte) (s : State) : (reply st d s).latches = s.latches := rfl
@[simp] theorem reply_enables (st : Status) (d : List Byte) (s : State) : (reply st d s).enables = s.enables := rfl
@[simp] theorem reply_master (st : Status) (d : List Byte) (s : State) : (reply st d s).master = s.master := rfl
@[simp] theorem reply_pending (st : Status) (d : List Byte) (s : State) : (reply st d s).pending = s.pending := rfl

/-! ### withdraw -/

@[simp] theorem withdraw_station (c : Claimant) (s : State) : (withdraw c s).station = s.station := rfl
@[simp] theorem withdraw_straps (c : Claimant) (s : State) : (withdraw c s).straps = s.straps := rfl
@[simp] theorem withdraw_startKind (c : Claimant) (s : State) : (withdraw c s).startKind = s.startKind := rfl
@[simp] theorem withdraw_clearing (c : Claimant) (s : State) : (withdraw c s).clearing = s.clearing := rfl
@[simp] theorem withdraw_vddGood (c : Claimant) (s : State) : (withdraw c s).vddGood = s.vddGood := rfl
@[simp] theorem withdraw_mark (c : Claimant) (s : State) : (withdraw c s).mark = s.mark := rfl
@[simp] theorem withdraw_prot (c : Claimant) (s : State) : (withdraw c s).prot = s.prot := rfl
@[simp] theorem withdraw_slots (c : Claimant) (s : State) : (withdraw c s).slots = s.slots := rfl
@[simp] theorem withdraw_store (c : Claimant) (s : State) : (withdraw c s).store = s.store := rfl
@[simp] theorem withdraw_view (c : Claimant) (s : State) : (withdraw c s).view = s.view := rfl
@[simp] theorem withdraw_gap (c : Claimant) (s : State) : (withdraw c s).gap = s.gap := rfl
@[simp] theorem withdraw_stuck (c : Claimant) (s : State) : (withdraw c s).stuck = s.stuck := rfl
@[simp] theorem withdraw_marker (c : Claimant) (s : State) : (withdraw c s).marker = s.marker := rfl
@[simp] theorem withdraw_own (c : Claimant) (s : State) : (withdraw c s).own = s.own := rfl
@[simp] theorem withdraw_frame (c : Claimant) (s : State) : (withdraw c s).frame = s.frame := rfl
@[simp] theorem withdraw_scrubPtr (c : Claimant) (s : State) : (withdraw c s).scrubPtr = s.scrubPtr := rfl
@[simp] theorem withdraw_upkeep (c : Claimant) (s : State) : (withdraw c s).upkeep = s.upkeep := rfl
@[simp] theorem withdraw_queue (c : Claimant) (s : State) : (withdraw c s).queue = s.queue := rfl
@[simp] theorem withdraw_abandoned (c : Claimant) (s : State) : (withdraw c s).abandoned = s.abandoned := rfl
@[simp] theorem withdraw_nextTag (c : Claimant) (s : State) : (withdraw c s).nextTag = s.nextTag := rfl
@[simp] theorem withdraw_result (c : Claimant) (s : State) : (withdraw c s).result = s.result := rfl
@[simp] theorem withdraw_outcome (c : Claimant) (s : State) : (withdraw c s).outcome = s.outcome := rfl
@[simp] theorem withdraw_accrued (c : Claimant) (s : State) : (withdraw c s).accrued = s.accrued := rfl
@[simp] theorem withdraw_faults (c : Claimant) (s : State) : (withdraw c s).faults = s.faults := rfl
@[simp] theorem withdraw_editPage (c : Claimant) (s : State) : (withdraw c s).editPage = s.editPage := rfl
@[simp] theorem withdraw_editOffset (c : Claimant) (s : State) : (withdraw c s).editOffset = s.editOffset := rfl
@[simp] theorem withdraw_selHigh (c : Claimant) (s : State) : (withdraw c s).selHigh = s.selHigh := rfl
@[simp] theorem withdraw_txn (c : Claimant) (s : State) : (withdraw c s).txn = s.txn := rfl
@[simp] theorem withdraw_pointerPage (c : Claimant) (s : State) : (withdraw c s).pointerPage = s.pointerPage := rfl
@[simp] theorem withdraw_pointerWord (c : Claimant) (s : State) : (withdraw c s).pointerWord = s.pointerWord := rfl
@[simp] theorem withdraw_short (c : Claimant) (s : State) : (withdraw c s).short = s.short := rfl
@[simp] theorem withdraw_sdo (c : Claimant) (s : State) : (withdraw c s).sdo = s.sdo := rfl
@[simp] theorem withdraw_latches (c : Claimant) (s : State) : (withdraw c s).latches = s.latches := rfl
@[simp] theorem withdraw_enables (c : Claimant) (s : State) : (withdraw c s).enables = s.enables := rfl
@[simp] theorem withdraw_master (c : Claimant) (s : State) : (withdraw c s).master = s.master := rfl
@[simp] theorem withdraw_pending (c : Claimant) (s : State) : (withdraw c s).pending = s.pending := rfl

/-! ### endEntry -/

@[simp] theorem endEntry_station (e : Entry) (s : State) : (endEntry e s).station = s.station := rfl
@[simp] theorem endEntry_straps (e : Entry) (s : State) : (endEntry e s).straps = s.straps := rfl
@[simp] theorem endEntry_startKind (e : Entry) (s : State) : (endEntry e s).startKind = s.startKind := rfl
@[simp] theorem endEntry_clearing (e : Entry) (s : State) : (endEntry e s).clearing = s.clearing := rfl
@[simp] theorem endEntry_vddGood (e : Entry) (s : State) : (endEntry e s).vddGood = s.vddGood := rfl
@[simp] theorem endEntry_mark (e : Entry) (s : State) : (endEntry e s).mark = s.mark := rfl
@[simp] theorem endEntry_prot (e : Entry) (s : State) : (endEntry e s).prot = s.prot := rfl
@[simp] theorem endEntry_slots (e : Entry) (s : State) : (endEntry e s).slots = s.slots := rfl
@[simp] theorem endEntry_store (e : Entry) (s : State) : (endEntry e s).store = s.store := rfl
@[simp] theorem endEntry_view (e : Entry) (s : State) : (endEntry e s).view = s.view := rfl
@[simp] theorem endEntry_gap (e : Entry) (s : State) : (endEntry e s).gap = s.gap := rfl
@[simp] theorem endEntry_stuck (e : Entry) (s : State) : (endEntry e s).stuck = s.stuck := rfl
@[simp] theorem endEntry_marker (e : Entry) (s : State) : (endEntry e s).marker = s.marker := rfl
@[simp] theorem endEntry_own (e : Entry) (s : State) : (endEntry e s).own = s.own := rfl
@[simp] theorem endEntry_frame (e : Entry) (s : State) : (endEntry e s).frame = s.frame := rfl
@[simp] theorem endEntry_arbiter (e : Entry) (s : State) : (endEntry e s).arbiter = s.arbiter := rfl
@[simp] theorem endEntry_scrubPtr (e : Entry) (s : State) : (endEntry e s).scrubPtr = s.scrubPtr := rfl
@[simp] theorem endEntry_upkeep (e : Entry) (s : State) : (endEntry e s).upkeep = s.upkeep := rfl
@[simp] theorem endEntry_queue (e : Entry) (s : State) : (endEntry e s).queue = s.queue := rfl
@[simp] theorem endEntry_abandoned (e : Entry) (s : State) : (endEntry e s).abandoned = s.abandoned := rfl
@[simp] theorem endEntry_nextTag (e : Entry) (s : State) : (endEntry e s).nextTag = s.nextTag := rfl
@[simp] theorem endEntry_result (e : Entry) (s : State) : (endEntry e s).result = s.result := rfl
@[simp] theorem endEntry_faults (e : Entry) (s : State) : (endEntry e s).faults = s.faults := rfl
@[simp] theorem endEntry_editPage (e : Entry) (s : State) : (endEntry e s).editPage = s.editPage := rfl
@[simp] theorem endEntry_editOffset (e : Entry) (s : State) : (endEntry e s).editOffset = s.editOffset := rfl
@[simp] theorem endEntry_selHigh (e : Entry) (s : State) : (endEntry e s).selHigh = s.selHigh := rfl
@[simp] theorem endEntry_txn (e : Entry) (s : State) : (endEntry e s).txn = s.txn := rfl
@[simp] theorem endEntry_pointerPage (e : Entry) (s : State) : (endEntry e s).pointerPage = s.pointerPage := rfl
@[simp] theorem endEntry_pointerWord (e : Entry) (s : State) : (endEntry e s).pointerWord = s.pointerWord := rfl
@[simp] theorem endEntry_short (e : Entry) (s : State) : (endEntry e s).short = s.short := rfl
@[simp] theorem endEntry_sdo (e : Entry) (s : State) : (endEntry e s).sdo = s.sdo := rfl
@[simp] theorem endEntry_latches (e : Entry) (s : State) : (endEntry e s).latches = s.latches := rfl
@[simp] theorem endEntry_enables (e : Entry) (s : State) : (endEntry e s).enables = s.enables := rfl
@[simp] theorem endEntry_master (e : Entry) (s : State) : (endEntry e s).master = s.master := rfl
@[simp] theorem endEntry_pending (e : Entry) (s : State) : (endEntry e s).pending = s.pending := rfl

/-! ### withArbiter -/

@[simp] theorem withArbiter_station (s : State) (a : Arbiter) : (s.withArbiter a).station = s.station := rfl
@[simp] theorem withArbiter_straps (s : State) (a : Arbiter) : (s.withArbiter a).straps = s.straps := rfl
@[simp] theorem withArbiter_startKind (s : State) (a : Arbiter) : (s.withArbiter a).startKind = s.startKind := rfl
@[simp] theorem withArbiter_clearing (s : State) (a : Arbiter) : (s.withArbiter a).clearing = s.clearing := rfl
@[simp] theorem withArbiter_vddGood (s : State) (a : Arbiter) : (s.withArbiter a).vddGood = s.vddGood := rfl
@[simp] theorem withArbiter_mark (s : State) (a : Arbiter) : (s.withArbiter a).mark = s.mark := rfl
@[simp] theorem withArbiter_prot (s : State) (a : Arbiter) : (s.withArbiter a).prot = s.prot := rfl
@[simp] theorem withArbiter_slots (s : State) (a : Arbiter) : (s.withArbiter a).slots = s.slots := rfl
@[simp] theorem withArbiter_store (s : State) (a : Arbiter) : (s.withArbiter a).store = s.store := rfl
@[simp] theorem withArbiter_view (s : State) (a : Arbiter) : (s.withArbiter a).view = s.view := rfl
@[simp] theorem withArbiter_gap (s : State) (a : Arbiter) : (s.withArbiter a).gap = s.gap := rfl
@[simp] theorem withArbiter_stuck (s : State) (a : Arbiter) : (s.withArbiter a).stuck = s.stuck := rfl
@[simp] theorem withArbiter_marker (s : State) (a : Arbiter) : (s.withArbiter a).marker = s.marker := rfl
@[simp] theorem withArbiter_own (s : State) (a : Arbiter) : (s.withArbiter a).own = s.own := rfl
@[simp] theorem withArbiter_frame (s : State) (a : Arbiter) : (s.withArbiter a).frame = s.frame := rfl
@[simp] theorem withArbiter_scrubPtr (s : State) (a : Arbiter) : (s.withArbiter a).scrubPtr = s.scrubPtr := rfl
@[simp] theorem withArbiter_upkeep (s : State) (a : Arbiter) : (s.withArbiter a).upkeep = s.upkeep := rfl
@[simp] theorem withArbiter_queue (s : State) (a : Arbiter) : (s.withArbiter a).queue = s.queue := rfl
@[simp] theorem withArbiter_abandoned (s : State) (a : Arbiter) : (s.withArbiter a).abandoned = s.abandoned := rfl
@[simp] theorem withArbiter_nextTag (s : State) (a : Arbiter) : (s.withArbiter a).nextTag = s.nextTag := rfl
@[simp] theorem withArbiter_result (s : State) (a : Arbiter) : (s.withArbiter a).result = s.result := rfl
@[simp] theorem withArbiter_outcome (s : State) (a : Arbiter) : (s.withArbiter a).outcome = s.outcome := rfl
@[simp] theorem withArbiter_accrued (s : State) (a : Arbiter) : (s.withArbiter a).accrued = s.accrued := rfl
@[simp] theorem withArbiter_faults (s : State) (a : Arbiter) : (s.withArbiter a).faults = s.faults := rfl
@[simp] theorem withArbiter_editPage (s : State) (a : Arbiter) : (s.withArbiter a).editPage = s.editPage := rfl
@[simp] theorem withArbiter_editOffset (s : State) (a : Arbiter) : (s.withArbiter a).editOffset = s.editOffset := rfl
@[simp] theorem withArbiter_selHigh (s : State) (a : Arbiter) : (s.withArbiter a).selHigh = s.selHigh := rfl
@[simp] theorem withArbiter_txn (s : State) (a : Arbiter) : (s.withArbiter a).txn = s.txn := rfl
@[simp] theorem withArbiter_pointerPage (s : State) (a : Arbiter) : (s.withArbiter a).pointerPage = s.pointerPage := rfl
@[simp] theorem withArbiter_pointerWord (s : State) (a : Arbiter) : (s.withArbiter a).pointerWord = s.pointerWord := rfl
@[simp] theorem withArbiter_short (s : State) (a : Arbiter) : (s.withArbiter a).short = s.short := rfl
@[simp] theorem withArbiter_sdo (s : State) (a : Arbiter) : (s.withArbiter a).sdo = s.sdo := rfl
@[simp] theorem withArbiter_latches (s : State) (a : Arbiter) : (s.withArbiter a).latches = s.latches := rfl
@[simp] theorem withArbiter_enables (s : State) (a : Arbiter) : (s.withArbiter a).enables = s.enables := rfl
@[simp] theorem withArbiter_master (s : State) (a : Arbiter) : (s.withArbiter a).master = s.master := rfl
@[simp] theorem withArbiter_pending (s : State) (a : Arbiter) : (s.withArbiter a).pending = s.pending := rfl

/-! ### What they write -/

@[simp] theorem setLatch_latches (s : State) (l : Latch) : (s.setLatch l).latches = s.latches ||| l.mask := rfl
@[simp] theorem accrue_accrued (s : State) (f : BitVec 6) : (s.accrue f).accrued = s.accrued ||| f := rfl
@[simp] theorem withPending_pending (s : State) (q : List Instr) : (s.withPending q).pending = q := rfl
@[simp] theorem withArbiter_arbiter (s : State) (a : Arbiter) : (s.withArbiter a).arbiter = a := rfl
@[simp] theorem readProt_prot (b : Bool) (s : State) : (readProt b s).prot = b := rfl
@[simp] theorem modifyFrame_frame (f : FrameRecord → FrameRecord) (s : State) :
    (modifyFrame f s).frame = s.frame.map f := rfl
@[simp] theorem modifyTxn_txn (f : Transaction → Transaction) (s : State) : (modifyTxn f s).txn = s.txn.map f := rfl

/-- The slot just written. -/
@[simp] theorem slot_setSlot_same (s : State) (i : SlotIx) (r : Slot) : (s.setSlot i r).slot i = r := by
  simp [State.slot, State.setSlot]

/-- Every other slot. -/
theorem slot_setSlot_ne (s : State) {i j : SlotIx} (r : Slot) (h : j ≠ i) :
    (s.setSlot i r).slot j = s.slot j := by
  have : i.val ≠ j.val := fun e => h (Fin.ext e.symm)
  simp [State.slot, State.setSlot, this]

/-- Both at once. -/
theorem slot_setSlot (s : State) (i j : SlotIx) (r : Slot) :
    (s.setSlot i r).slot j = if j = i then r else s.slot j := by
  by_cases h : j = i
  · subst h; simp
  · simp [h, slot_setSlot_ne]

/-- A slot depends on the slot table alone. -/
theorem slot_congr {s t : State} (h : s.slots = t.slots) (i : SlotIx) : s.slot i = t.slot i := by
  simp [State.slot, h]

end Sys2Proof.Machine
end

