-- ==== Sys2Proof/Laws/Slots.lean ====
section
/-! SUPPORT. Finding slots: what a search over the slot table answers. -/

namespace Sys2Proof.Machine

/-- A slot of a table changed throughout. -/
@[simp] theorem slot_mapSlots (s : State) (f : Slot → Slot) (i : SlotIx) :
    State.slot { s with slots := mapSlots f s.slots } i = f (s.slot i) := by
  simp [State.slot, mapSlots]

/-- The slot found meets the condition. -/
theorem firstSlot_holds {s : State} {p : Slot → Bool} {i : SlotIx} (h : firstSlot s p = some i) :
    p (s.slot i) = true := by
  simpa using List.find?_some h

/-- None is found exactly when no slot meets the condition. -/
theorem firstSlot_none {s : State} {p : Slot → Bool} :
    firstSlot s p = none ↔ ∀ i : SlotIx, p (s.slot i) = false := by
  simp [firstSlot, List.find?_eq_none]

/-- Some slot is found exactly when one meets the condition. -/
theorem firstSlot_isSome {s : State} {p : Slot → Bool} :
    (firstSlot s p).isSome = true ↔ ∃ i : SlotIx, p (s.slot i) = true := by
  constructor
  · intro h
    obtain ⟨i, hi⟩ := Option.isSome_iff_exists.mp h
    exact ⟨i, firstSlot_holds hi⟩
  · rintro ⟨i, hi⟩
    by_contra hn
    have hnone : firstSlot s p = none := by simpa using hn
    rw [firstSlot_none] at hnone
    simp [hnone i] at hi

/-- The search depends on the slot table alone. -/
theorem firstSlot_congr {s t : State} (h : s.slots = t.slots) (p : Slot → Bool) :
    firstSlot s p = firstSlot t p := by
  simp [firstSlot, State.slot, h]

/-- The slot found for a page is not FREE and holds the page (R1). -/
theorem lookup_some {s : State} {page : PageId} {i : SlotIx} (h : lookup s page = some i) :
    (s.slot i).state ≠ .free ∧ (s.slot i).page = some page := by
  have := firstSlot_holds h
  simpa using this

/-- No slot is found exactly when none that is not FREE holds the page (R1). -/
theorem lookup_none {s : State} {page : PageId} :
    lookup s page = none ↔ ∀ i : SlotIx, (s.slot i).state ≠ .free → (s.slot i).page ≠ some page := by
  unfold lookup
  rw [firstSlot_none]
  simp

/-- The lookup depends on the slot table alone. -/
theorem lookup_congr {s t : State} (h : s.slots = t.slots) (page : PageId) : lookup s page = lookup t page :=
  firstSlot_congr h _

/-- No slot is DOUBT. -/
theorem anyDoubt_false {s : State} : anyDoubt s = false ↔ ∀ i : SlotIx, (s.slot i).state ≠ .doubt := by
  unfold anyDoubt
  rw [Bool.eq_false_iff, ne_eq, firstSlot_isSome]
  simp

end Sys2Proof.Machine
end

