-- ==== Sys2Proof/Laws/Store.lean ====
section
/-! SUPPORT. The store's laws: what a write changes, and that every operation keeps the canonical form. -/

namespace Sys2Proof.Machine

/-! ### Reading after writing -/

/-- A list that starts past an address reads 0 there. -/
theorem Store.read_eq_zero_of_wfFrom : ∀ (m : Store) (low a : Nat),
    Store.wfFrom low m = true → a < low → Store.read m a = 0#8
  | [], _, _, _, _ => rfl
  | (a', b) :: rest, low, a, h, ha => by
    simp only [Store.wfFrom, Bool.and_eq_true, decide_eq_true_eq] at h
    have hne : ¬ a' = a := by omega
    simp only [Store.read, hne, if_false]
    exact Store.read_eq_zero_of_wfFrom rest (a' + 1) a h.2 (by omega)

/-- A byte reads as written. -/
theorem Store.read_write_same : ∀ (m : Store) (low a : Nat) (b : Byte),
    Store.wfFrom low m = true → Store.read (Store.write m a b) a = b
  | [], _, a, b, _ => by
    by_cases hb : b = 0#8 <;> simp [Store.write, Store.read, hb]
  | (a', b') :: rest, low, a, b, h => by
    simp only [Store.wfFrom, Bool.and_eq_true, decide_eq_true_eq] at h
    by_cases h1 : a < a'
    · by_cases hb : b = 0#8
      · have hne : ¬ a' = a := by omega
        simp only [Store.write, h1, if_true, hb, Store.read, hne, if_false]
        exact Store.read_eq_zero_of_wfFrom rest (a' + 1) a h.2 (by omega)
      · simp [Store.write, h1, hb, Store.read]
    · by_cases h2 : a = a'
      · subst h2
        by_cases hb : b = 0#8
        · simp only [Store.write, Nat.lt_irrefl, if_false, if_true, hb]
          exact Store.read_eq_zero_of_wfFrom rest (a + 1) a h.2 (by omega)
        · simp [Store.write, hb, Store.read]
      · have hne : ¬ a' = a := fun e => h2 e.symm
        simp only [Store.write, h1, h2, if_false, Store.read, hne]
        exact Store.read_write_same rest (a' + 1) a b h.2

/-- Every other byte reads as before. -/
theorem Store.read_write_ne : ∀ (m : Store) (low a c : Nat) (b : Byte),
    Store.wfFrom low m = true → c ≠ a → Store.read (Store.write m a b) c = Store.read m c
  | [], _, a, c, b, _, hc => by
    have hne : ¬ a = c := fun e => hc e.symm
    by_cases hb : b = 0#8 <;> simp [Store.write, Store.read, hb, hne]
  | (a', b') :: rest, low, a, c, b, h, hc => by
    have hca : ¬ a = c := fun e => hc e.symm
    simp only [Store.wfFrom, Bool.and_eq_true, decide_eq_true_eq] at h
    by_cases h1 : a < a'
    · by_cases hb : b = 0#8
      · simp [Store.write, h1, hb]
      · simp [Store.write, h1, hb, Store.read, hca]
    · by_cases h2 : a = a'
      · subst h2
        by_cases hb : b = 0#8
        · simp [Store.write, hb, Store.read, hca]
        · simp [Store.write, hb, Store.read, hca]
      · simp only [Store.write, h1, h2, if_false, Store.read]
        rw [Store.read_write_ne rest (a' + 1) a c b h.2 hc]

/-! ### The canonical form -/

/-- The form from an address on holds from any lower one on. -/
theorem Store.wfFrom_mono : ∀ (m : Store) (low low' : Nat), low' ≤ low →
    Store.wfFrom low m = true → Store.wfFrom low' m = true
  | [], _, _, _, _ => rfl
  | (a, b) :: rest, low, low', hl, h => by
    simp only [Store.wfFrom, Bool.and_eq_true, decide_eq_true_eq] at h ⊢
    exact ⟨⟨⟨by omega, h.1.1.2⟩, h.1.2⟩, h.2⟩

/-- A write inside the store keeps the form. -/
theorem Store.wfFrom_write : ∀ (m : Store) (low a : Nat) (b : Byte), low ≤ a → a < Config.storeBytes →
    Store.wfFrom low m = true → Store.wfFrom low (Store.write m a b) = true
  | [], low, a, b, hl, ha, _ => by
    by_cases hb : b = 0#8 <;> simp [Store.write, Store.wfFrom, hb, hl, ha]
  | (a', b') :: rest, low, a, b, hl, ha, h => by
    simp only [Store.wfFrom, Bool.and_eq_true, decide_eq_true_eq] at h
    obtain ⟨⟨⟨h1, h2⟩, h3⟩, h4⟩ := h
    by_cases ha1 : a < a'
    · by_cases hb : b = 0#8
      · simp only [Store.write, ha1, if_true, hb, Store.wfFrom, Bool.and_eq_true, decide_eq_true_eq]
        exact ⟨⟨⟨h1, h2⟩, h3⟩, h4⟩
      · have hb' : (b != 0#8) = true := by simpa using hb
        simp only [Store.write, ha1, if_true, hb, if_false, Store.wfFrom, Bool.and_eq_true, decide_eq_true_eq]
        exact ⟨⟨⟨hl, ha⟩, hb'⟩, ⟨⟨⟨by omega, h2⟩, h3⟩, h4⟩⟩
    · by_cases ha2 : a = a'
      · subst ha2
        by_cases hb : b = 0#8
        · simp only [Store.write, Nat.lt_irrefl, if_false, if_true, hb]
          exact Store.wfFrom_mono rest (a + 1) low (by omega) h4
        · have hb' : (b != 0#8) = true := by simpa using hb
          simp only [Store.write, Nat.lt_irrefl, if_false, if_true, hb, Store.wfFrom, Bool.and_eq_true,
            decide_eq_true_eq]
          exact ⟨⟨⟨hl, ha⟩, hb'⟩, h4⟩
      · simp only [Store.write, ha1, ha2, if_false, Store.wfFrom, Bool.and_eq_true, decide_eq_true_eq]
        exact ⟨⟨⟨h1, h2⟩, h3⟩, Store.wfFrom_write rest (a' + 1) a b (by omega) ha h4⟩

/-- One byte written keeps the form. -/
theorem Memory.wf_write (m : Store) (a : Nat) (b : Byte) (ha : a < Config.storeBytes)
    (h : Memory.wf m = true) : Memory.wf (Store.write m a b) = true :=
  Store.wfFrom_write m 0 a b (Nat.zero_le a) ha h

/-- Bytes written inside the store keep the form. -/
theorem Memory.wf_writeBytes : ∀ (bs : List Byte) (m : Store) (a : Nat), a + bs.length ≤ Config.storeBytes →
    Memory.wf m = true → Memory.wf (Store.writeBytes m a bs) = true
  | [], _, _, _, h => h
  | b :: bs, m, a, ha, h => by
    simp only [List.length_cons] at ha
    exact Memory.wf_writeBytes bs (Store.write m a b) (a + 1) (by omega)
      (Memory.wf_write m a b (by omega) h)

/-- Two bytes to a word. -/
theorem length_wordsBytes : ∀ ws : List Word, (wordsBytes ws).length = 2 * ws.length
  | [] => rfl
  | w :: ws => by
    simp only [wordsBytes, List.length_append, length_wordsBytes ws, wordBytes, List.length_cons, List.length_nil]
    omega

/-- Words written into an area keep the form (R99). -/
theorem Memory.wf_writeWords (m : Store) (i : SlotIx) (offset : Nat) (ws : List Word)
    (h : Memory.wf m = true) : Memory.wf (m.writeWords i offset ws) = true := by
  unfold Store.writeWords
  have hlen : (wordsBytes (ws.take (Config.wordsPerPage - offset))).length
      ≤ 2 * (Config.wordsPerPage - offset) := by
    rw [length_wordsBytes, List.length_take]
    omega
  by_cases hoff : offset ≤ Config.wordsPerPage
  · refine Memory.wf_writeBytes _ m _ ?_ h
    have := i.isLt
    simp only [wordAddress, Config.areaBytes, Config.wordsPerPage, Config.storeBytes] at hlen hoff ⊢
    omega
  · have hz : Config.wordsPerPage - offset = 0 := by omega
    simp only [hz, List.take_zero, wordsBytes, Store.writeBytes]
    exact h

/-- Keeping only some of the bytes keeps the form. -/
theorem Store.wfFrom_filter (p : Host.Cell → Bool) : ∀ (m : Store) (low : Nat),
    Store.wfFrom low m = true → Store.wfFrom low (m.filter p) = true
  | [], _, _ => rfl
  | (a, b) :: rest, low, h => by
    simp only [Store.wfFrom, Bool.and_eq_true, decide_eq_true_eq] at h
    have ih := Store.wfFrom_filter p rest (a + 1) h.2
    by_cases hp : p (a, b) = true
    · simp only [List.filter_cons, hp, if_true, Store.wfFrom, Bool.and_eq_true, decide_eq_true_eq]
      exact ⟨h.1, ih⟩
    · simp only [List.filter_cons, hp]
      exact Store.wfFrom_mono _ (a + 1) low (by omega) ih

/-- A clearing that stops keeps the form (R163). -/
theorem Memory.wf_clearAreas (m : Store) (n : Nat) (h : Memory.wf m = true) :
    Memory.wf (m.clearAreas n) = true := Store.wfFrom_filter _ m 0 h

/-- The empty store has the form. -/
theorem Memory.wf_nil : Memory.wf [] = true := rfl

/-! ### What bytes and words written leave -/

/-- Bytes outside those written read as before. -/
theorem Store.read_writeBytes_outside : ∀ (bs : List Byte) (m : Store) (a c : Nat),
    a + bs.length ≤ Config.storeBytes → Memory.wf m = true → (c < a ∨ a + bs.length ≤ c) →
    Store.read (Store.writeBytes m a bs) c = Store.read m c
  | [], _, _, _, _, _, _ => rfl
  | b :: bs, m, a, c, ha, h, hc => by
    simp only [List.length_cons] at ha hc
    rw [Store.writeBytes, Store.read_writeBytes_outside bs _ (a + 1) c (by omega)
      (Memory.wf_write m a b (by omega) h) (by omega)]
    exact Store.read_write_ne m 0 a c b h (by omega)

/-- The bytes written read as written. -/
theorem Store.read_writeBytes_inside : ∀ (bs : List Byte) (m : Store) (a k : Nat),
    a + bs.length ≤ Config.storeBytes → Memory.wf m = true → (hk : k < bs.length) →
    Store.read (Store.writeBytes m a bs) (a + k) = bs[k]
  | [], _, _, _, _, _, hk => absurd hk (Nat.not_lt_zero _)
  | b :: bs, m, a, 0, ha, h, _ => by
    simp only [List.length_cons] at ha
    rw [Store.writeBytes, Store.read_writeBytes_outside bs _ (a + 1) (a + 0) (by omega)
      (Memory.wf_write m a b (by omega) h) (by omega)]
    exact Store.read_write_same m 0 a b h
  | b :: bs, m, a, k + 1, ha, h, hk => by
    simp only [List.length_cons] at ha hk
    have := Store.read_writeBytes_inside bs (Store.write m a b) (a + 1) k (by omega)
      (Memory.wf_write m a b (by omega) h) (by omega)
    rw [Store.writeBytes, show a + (k + 1) = a + 1 + k by omega, this]
    rfl

end Sys2Proof.Machine
end

