-- ==== Sys2Proof/Laws/Access.lean ====
section
/-! SUPPORT. What a store access can do: to the store's form, to the slots, and when it is granted (R101 to R103). -/

namespace Sys2Proof.Machine

/-- An access leaves a slot's state, page, partner, marks and attempts as they are: it writes version and check only
(R101). -/
theorem applyAccess_slot (i j : SlotIx) (k : AccessKind) (s : State) :
    ∃ v c, (applyAccess i k s).slot j = { s.slot j with version := v, check := c } := by
  have base : ∀ (m : Store) (v : Version) (c : Word),
      ∃ v' c', (State.setSlot { s with store := m } i { s.slot i with version := v, check := c }).slot j
        = { s.slot j with version := v', check := c' } := by
    intro m v c
    by_cases h : j = i
    · subst h; exact ⟨v, c, by simp⟩
    · exact ⟨(s.slot j).version, (s.slot j).check, by rw [slot_setSlot_ne _ _ h]; rfl⟩
  cases k with
  | snapshot => exact ⟨_, _, rfl⟩
  | checkStep => exact ⟨_, _, rfl⟩
  | wordWrite offset words v => exact base _ _ _
  | pageLoad v words c => exact base _ _ _
  | zeroFill => exact base _ _ _

/-- The store an access leaves is the one it found, or that with words written into the slot's area. -/
theorem applyAccess_store (i : SlotIx) (k : AccessKind) (s : State) :
    (applyAccess i k s).store = s.store ∨
      ∃ offset words, (applyAccess i k s).store = s.store.writeWords i offset words := by
  cases k with
  | snapshot => exact Or.inl rfl
  | checkStep => exact Or.inl rfl
  | wordWrite offset words v => exact Or.inr ⟨offset, words, by simp only [applyAccess, setSlot_store]⟩
  | pageLoad v words c => exact Or.inr ⟨0, words, by simp only [applyAccess, setSlot_store]⟩
  | zeroFill => exact Or.inr ⟨0, zeroPage, by simp only [applyAccess, setSlot_store]⟩

/-- An access keeps the store's form. -/
theorem applyAccess_storeOk (i : SlotIx) (k : AccessKind) (s : State) (h : StoreOk s) :
    StoreOk (applyAccess i k s) := by
  unfold StoreOk
  rcases applyAccess_store i k s with hs | ⟨offset, words, hs⟩
  · rw [hs]
    exact h
  · rw [hs]
    exact Memory.wf_writeWords s.store i offset words h

/-- A request to an idle store is granted at once (R103). -/
theorem request_idle (c : Claimant) (q : Request) (s : State) (h : StoreIdle s) :
    request c q s = grant c q s := by
  simp [request, h, Arbiter.idle, Arbiter.anyWaiting]

/-- A request is granted at once or waits; either way only an access's own change is made to store and slots. -/
theorem request_cases (c : Claimant) (q : Request) (s : State) :
    request c q s = grant c q s ∨
      ((request c q s).store = s.store ∧ (request c q s).slots = s.slots) := by
  unfold request
  split
  · exact Or.inl rfl
  · exact Or.inr ⟨rfl, rfl⟩

/-- The store and the slots after a grant are those after the access. -/
theorem grant_store (c : Claimant) (q : Request) (s : State) :
    (grant c q s).store = (applyAccess q.slot q.kind s).store ∧
      (grant c q s).slots = (applyAccess q.slot q.kind s).slots := ⟨rfl, rfl⟩

/-- A request keeps the store's form. -/
theorem request_storeOk (c : Claimant) (q : Request) (s : State) (h : StoreOk s) : StoreOk (request c q s) := by
  rcases request_cases c q s with hg | ⟨hs, _⟩
  · rw [hg]
    unfold StoreOk
    rw [(grant_store c q s).1]
    exact applyAccess_storeOk q.slot q.kind s h
  · unfold StoreOk
    rw [hs]
    exact h

/-- The next grant keeps the store's form. -/
theorem grantNext_storeOk (s : State) (h : StoreOk s) : StoreOk (grantNext s) := by
  have key : ∀ (c : Claimant) (q : Request) (t : State), t.store = s.store → StoreOk (grant c q t) := by
    intro c q t ht
    unfold StoreOk
    rw [(grant_store c q t).1]
    refine applyAccess_storeOk q.slot q.kind t ?_
    unfold StoreOk
    rw [ht]
    exact h
  unfold grantNext
  split
  · exact h
  all_goals first | exact key _ _ _ rfl | exact h

end Sys2Proof.Machine
end

