-- ==== Sys2Proof/Laws/Frames.lean ====
section
/-! SUPPORT. Frames event by event: a row's events one after the other, and when a field has nothing to wait for. -/

namespace Sys2Proof.Machine

/-- The first event of a row, then the rest. -/
@[simp] theorem frameEvents_cons (row : BitVec 4) (e : FrameEvent) (es : List FrameEvent) (s : State) :
    frameEvents row (e :: es) s = frameEvents row es (frameEvent row s e) := rfl

/-- No event. -/
@[simp] theorem frameEvents_nil (row : BitVec 4) (s : State) : frameEvents row [] s = s := rfl

/-- With no access of the frame's own, nothing is waited for (R34). -/
theorem settle_free {s : State} (h : s.arbiter.busyFor .frame = false) : settle s = s := by
  simp [settle, h]

/-- A field whose low phase has been, with no access of the frame's own, is sampled as it stands. -/
theorem ready_free {s : State} {r : FrameRecord} (hf : s.frame = some r) (hl : r.low = true)
    (h : s.arbiter.busyFor .frame = false) : ready s = s := by
  have hp : lowPhase s = s := by simp [lowPhase, hf, hl]
  rw [ready, hp, settle_free h]

/-- An idle store holds no access of the frame's own. -/
theorem busyFor_idle {s : State} (h : StoreIdle s) (c : Claimant) : s.arbiter.busyFor c = false := by
  cases c <;> simp [h, Arbiter.busyFor, Arbiter.idle]

/-- The defined kinds are the codes 0 to 7 (R43). -/
@[simp] theorem ofCode_code (k : Kind) : Kind.ofCode k.code = some k := by
  cases k <;> decide

/-- A record's kind, from its header. -/
theorem kind_of_code {r : FrameRecord} {k : Kind} (h : r.kindCode = some k.code) : r.kind = some k := by
  simp [FrameRecord.kind, h]

/-! ### Which event does what -/

/-- A bit of a frame of the row's kind. -/
theorem frameEvent_bit {row : BitVec 4} {s : State} {r : FrameRecord} (others : Bool) (hf : s.frame = some r)
    (hk : r.fits row = true) (hb : r.beforeBit = true) : frameEvent row s (.bit others) = bitComplete others s := by
  simp [frameEvent, insideFrame, hf, hk, hb]

/-- A byte after the header. -/
theorem frameEvent_byte {row : BitVec 4} {s : State} {r : FrameRecord} (others : Byte) (hf : s.frame = some r)
    (hk : r.fits row = true) (hb : r.beforeByte = true) : frameEvent row s (.byte others) = byteComplete others s := by
  simp [frameEvent, insideFrame, hf, hk, hb]

/-- The header. -/
theorem frameEvent_header {row : BitVec 4} {s : State} {r : FrameRecord} (o : StationNo) (hf : s.frame = some r)
    (hk : r.fits row = true) (hb : r.beforeHeader = true) :
    frameEvent row s (.header o) = headerComplete row o s := by
  simp [frameEvent, insideFrame, hf, hk, hb]

/-- PBC falls inside a frame. -/
theorem frameEvent_low {row : BitVec 4} {s : State} {r : FrameRecord} (hf : s.frame = some r)
    (hk : r.fits row = true) : frameEvent row s .low = lowPhase s := by
  simp [frameEvent, insideFrame, hf, hk]

/-- PBD rises with PBC high inside a frame (R26). -/
theorem frameEvent_closing {row : BitVec 4} {s : State} {r : FrameRecord} (hf : s.frame = some r)
    (hk : r.fits row = true) :
    frameEvent row s .closing = if r.completeHere then endFrame .complete (ready s) else endFrame .broken s := by
  simp [frameEvent, insideFrame, hf, hk, closing]

/-- The originator drives PBD low for its closing (R167). -/
theorem frameEvent_closingBegun {row : BitVec 4} {s : State} {r : FrameRecord} (hf : s.frame = some r)
    (hk : r.fits row = true) : frameEvent row s .closingBegun = beginClosing s := by
  simp [frameEvent, insideFrame, hf, hk]

/-- A record whose header is the row's fits it. -/
theorem fits_code {row : BitVec 4} {r : FrameRecord} (h : r.kindCode = some row) : r.fits row = true := by
  simp [FrameRecord.fits, h]

/-- Where a statement says a frame stands, the record fits its row and is not before its header's end. -/
theorem StandsAt.fits {s : State} {r : FrameRecord} {k : Kind} {p : Point} (h : StandsAt s r k p) :
    r.fits k.code = true := fits_code h.2.1

end Sys2Proof.Machine
end

