-- ==== Sys2Proof/Laws/Queue.lean ====
section
/-! SUPPORT. What the operations of the send queue, the outcome flags and the upkeep operation leave as it was, and what they do to the entry in flight (R116, R139, R146). -/

namespace Sys2Proof.Machine

/-! ### endUpkeep -/

@[simp] theorem endUpkeep_station (s : State) : (endUpkeep s).station = s.station := by
  unfold endUpkeep; split <;> rfl
@[simp] theorem endUpkeep_straps (s : State) : (endUpkeep s).straps = s.straps := by
  unfold endUpkeep; split <;> rfl
@[simp] theorem endUpkeep_startKind (s : State) : (endUpkeep s).startKind = s.startKind := by
  unfold endUpkeep; split <;> rfl
@[simp] theorem endUpkeep_clearing (s : State) : (endUpkeep s).clearing = s.clearing := by
  unfold endUpkeep; split <;> rfl
@[simp] theorem endUpkeep_vddGood (s : State) : (endUpkeep s).vddGood = s.vddGood := by
  unfold endUpkeep; split <;> rfl
@[simp] theorem endUpkeep_mark (s : State) : (endUpkeep s).mark = s.mark := by
  unfold endUpkeep; split <;> rfl
@[simp] theorem endUpkeep_prot (s : State) : (endUpkeep s).prot = s.prot := by
  unfold endUpkeep; split <;> rfl
@[simp] theorem endUpkeep_slots (s : State) : (endUpkeep s).slots = s.slots := by
  unfold endUpkeep; split <;> rfl
@[simp] theorem endUpkeep_store (s : State) : (endUpkeep s).store = s.store := by
  unfold endUpkeep; split <;> rfl
@[simp] theorem endUpkeep_view (s : State) : (endUpkeep s).view = s.view := by
  unfold endUpkeep; split <;> rfl
@[simp] theorem endUpkeep_gap (s : State) : (endUpkeep s).gap = s.gap := by
  unfold endUpkeep; split <;> rfl
@[simp] theorem endUpkeep_stuck (s : State) : (endUpkeep s).stuck = s.stuck := by
  unfold endUpkeep; split <;> rfl
@[simp] theorem endUpkeep_marker (s : State) : (endUpkeep s).marker = s.marker := by
  unfold endUpkeep; split <;> rfl
@[simp] theorem endUpkeep_own (s : State) : (endUpkeep s).own = s.own := by
  unfold endUpkeep; split <;> rfl
@[simp] theorem endUpkeep_frame (s : State) : (endUpkeep s).frame = s.frame := by
  unfold endUpkeep; split <;> rfl
@[simp] theorem endUpkeep_arbiter (s : State) : (endUpkeep s).arbiter = s.arbiter := by
  unfold endUpkeep; split <;> rfl
@[simp] theorem endUpkeep_scrubPtr (s : State) : (endUpkeep s).scrubPtr = s.scrubPtr := by
  unfold endUpkeep; split <;> rfl
@[simp] theorem endUpkeep_queue (s : State) : (endUpkeep s).queue = s.queue := by
  unfold endUpkeep; split <;> rfl
@[simp] theorem endUpkeep_abandoned (s : State) : (endUpkeep s).abandoned = s.abandoned := by
  unfold endUpkeep; split <;> rfl
@[simp] theorem endUpkeep_nextTag (s : State) : (endUpkeep s).nextTag = s.nextTag := by
  unfold endUpkeep; split <;> rfl
@[simp] theorem endUpkeep_result (s : State) : (endUpkeep s).result = s.result := by
  unfold endUpkeep; split <;> rfl
@[simp] theorem endUpkeep_faults (s : State) : (endUpkeep s).faults = s.faults := by
  unfold endUpkeep; split <;> rfl
@[simp] theorem endUpkeep_editPage (s : State) : (endUpkeep s).editPage = s.editPage := by
  unfold endUpkeep; split <;> rfl
@[simp] theorem endUpkeep_editOffset (s : State) : (endUpkeep s).editOffset = s.editOffset := by
  unfold endUpkeep; split <;> rfl
@[simp] theorem endUpkeep_selHigh (s : State) : (endUpkeep s).selHigh = s.selHigh := by
  unfold endUpkeep; split <;> rfl
@[simp] theorem endUpkeep_txn (s : State) : (endUpkeep s).txn = s.txn := by
  unfold endUpkeep; split <;> rfl
@[simp] theorem endUpkeep_pointerPage (s : State) : (endUpkeep s).pointerPage = s.pointerPage := by
  unfold endUpkeep; split <;> rfl
@[simp] theorem endUpkeep_pointerWord (s : State) : (endUpkeep s).pointerWord = s.pointerWord := by
  unfold endUpkeep; split <;> rfl
@[simp] theorem endUpkeep_short (s : State) : (endUpkeep s).short = s.short := by
  unfold endUpkeep; split <;> rfl
@[simp] theorem endUpkeep_sdo (s : State) : (endUpkeep s).sdo = s.sdo := by
  unfold endUpkeep; split <;> rfl
@[simp] theorem endUpkeep_latches (s : State) : (endUpkeep s).latches = s.latches := by
  unfold endUpkeep; split <;> rfl
@[simp] theorem endUpkeep_enables (s : State) : (endUpkeep s).enables = s.enables := by
  unfold endUpkeep; split <;> rfl
@[simp] theorem endUpkeep_master (s : State) : (endUpkeep s).master = s.master := by
  unfold endUpkeep; split <;> rfl
@[simp] theorem endUpkeep_pending (s : State) : (endUpkeep s).pending = s.pending := by
  unfold endUpkeep; split <;> rfl

/-! ### modifyCurrent -/

@[simp] theorem modifyCurrent_station (f : Entry → Entry) (s : State) : (modifyCurrent f s).station = s.station := by
  unfold modifyCurrent; split <;> rfl
@[simp] theorem modifyCurrent_straps (f : Entry → Entry) (s : State) : (modifyCurrent f s).straps = s.straps := by
  unfold modifyCurrent; split <;> rfl
@[simp] theorem modifyCurrent_startKind (f : Entry → Entry) (s : State) : (modifyCurrent f s).startKind = s.startKind := by
  unfold modifyCurrent; split <;> rfl
@[simp] theorem modifyCurrent_clearing (f : Entry → Entry) (s : State) : (modifyCurrent f s).clearing = s.clearing := by
  unfold modifyCurrent; split <;> rfl
@[simp] theorem modifyCurrent_vddGood (f : Entry → Entry) (s : State) : (modifyCurrent f s).vddGood = s.vddGood := by
  unfold modifyCurrent; split <;> rfl
@[simp] theorem modifyCurrent_mark (f : Entry → Entry) (s : State) : (modifyCurrent f s).mark = s.mark := by
  unfold modifyCurrent; split <;> rfl
@[simp] theorem modifyCurrent_prot (f : Entry → Entry) (s : State) : (modifyCurrent f s).prot = s.prot := by
  unfold modifyCurrent; split <;> rfl
@[simp] theorem modifyCurrent_slots (f : Entry → Entry) (s : State) : (modifyCurrent f s).slots = s.slots := by
  unfold modifyCurrent; split <;> rfl
@[simp] theorem modifyCurrent_store (f : Entry → Entry) (s : State) : (modifyCurrent f s).store = s.store := by
  unfold modifyCurrent; split <;> rfl
@[simp] theorem modifyCurrent_view (f : Entry → Entry) (s : State) : (modifyCurrent f s).view = s.view := by
  unfold modifyCurrent; split <;> rfl
@[simp] theorem modifyCurrent_gap (f : Entry → Entry) (s : State) : (modifyCurrent f s).gap = s.gap := by
  unfold modifyCurrent; split <;> rfl
@[simp] theorem modifyCurrent_stuck (f : Entry → Entry) (s : State) : (modifyCurrent f s).stuck = s.stuck := by
  unfold modifyCurrent; split <;> rfl
@[simp] theorem modifyCurrent_marker (f : Entry → Entry) (s : State) : (modifyCurrent f s).marker = s.marker := by
  unfold modifyCurrent; split <;> rfl
@[simp] theorem modifyCurrent_own (f : Entry → Entry) (s : State) : (modifyCurrent f s).own = s.own := by
  unfold modifyCurrent; split <;> rfl
@[simp] theorem modifyCurrent_frame (f : Entry → Entry) (s : State) : (modifyCurrent f s).frame = s.frame := by
  unfold modifyCurrent; split <;> rfl
@[simp] theorem modifyCurrent_arbiter (f : Entry → Entry) (s : State) : (modifyCurrent f s).arbiter = s.arbiter := by
  unfold modifyCurrent; split <;> rfl
@[simp] theorem modifyCurrent_scrubPtr (f : Entry → Entry) (s : State) : (modifyCurrent f s).scrubPtr = s.scrubPtr := by
  unfold modifyCurrent; split <;> rfl
@[simp] theorem modifyCurrent_upkeep (f : Entry → Entry) (s : State) : (modifyCurrent f s).upkeep = s.upkeep := by
  unfold modifyCurrent; split <;> rfl
@[simp] theorem modifyCurrent_nextTag (f : Entry → Entry) (s : State) : (modifyCurrent f s).nextTag = s.nextTag := by
  unfold modifyCurrent; split <;> rfl
@[simp] theorem modifyCurrent_result (f : Entry → Entry) (s : State) : (modifyCurrent f s).result = s.result := by
  unfold modifyCurrent; split <;> rfl
@[simp] theorem modifyCurrent_outcome (f : Entry → Entry) (s : State) : (modifyCurrent f s).outcome = s.outcome := by
  unfold modifyCurrent; split <;> rfl
@[simp] theorem modifyCurrent_accrued (f : Entry → Entry) (s : State) : (modifyCurrent f s).accrued = s.accrued := by
  unfold modifyCurrent; split <;> rfl
@[simp] theorem modifyCurrent_faults (f : Entry → Entry) (s : State) : (modifyCurrent f s).faults = s.faults := by
  unfold modifyCurrent; split <;> rfl
@[simp] theorem modifyCurrent_editPage (f : Entry → Entry) (s : State) : (modifyCurrent f s).editPage = s.editPage := by
  unfold modifyCurrent; split <;> rfl
@[simp] theorem modifyCurrent_editOffset (f : Entry → Entry) (s : State) : (modifyCurrent f s).editOffset = s.editOffset := by
  unfold modifyCurrent; split <;> rfl
@[simp] theorem modifyCurrent_selHigh (f : Entry → Entry) (s : State) : (modifyCurrent f s).selHigh = s.selHigh := by
  unfold modifyCurrent; split <;> rfl
@[simp] theorem modifyCurrent_txn (f : Entry → Entry) (s : State) : (modifyCurrent f s).txn = s.txn := by
  unfold modifyCurrent; split <;> rfl
@[simp] theorem modifyCurrent_pointerPage (f : Entry → Entry) (s : State) : (modifyCurrent f s).pointerPage = s.pointerPage := by
  unfold modifyCurrent; split <;> rfl
@[simp] theorem modifyCurrent_pointerWord (f : Entry → Entry) (s : State) : (modifyCurrent f s).pointerWord = s.pointerWord := by
  unfold modifyCurrent; split <;> rfl
@[simp] theorem modifyCurrent_short (f : Entry → Entry) (s : State) : (modifyCurrent f s).short = s.short := by
  unfold modifyCurrent; split <;> rfl
@[simp] theorem modifyCurrent_sdo (f : Entry → Entry) (s : State) : (modifyCurrent f s).sdo = s.sdo := by
  unfold modifyCurrent; split <;> rfl
@[simp] theorem modifyCurrent_latches (f : Entry → Entry) (s : State) : (modifyCurrent f s).latches = s.latches := by
  unfold modifyCurrent; split <;> rfl
@[simp] theorem modifyCurrent_enables (f : Entry → Entry) (s : State) : (modifyCurrent f s).enables = s.enables := by
  unfold modifyCurrent; split <;> rfl
@[simp] theorem modifyCurrent_master (f : Entry → Entry) (s : State) : (modifyCurrent f s).master = s.master := by
  unfold modifyCurrent; split <;> rfl
@[simp] theorem modifyCurrent_pending (f : Entry → Entry) (s : State) : (modifyCurrent f s).pending = s.pending := by
  unfold modifyCurrent; split <;> rfl

/-! ### addFlag -/

@[simp] theorem addFlag_station (f : Flag) (s : State) : (addFlag f s).station = s.station := by
  unfold addFlag; split
  · rfl
  · dsimp only; split <;> simp
@[simp] theorem addFlag_straps (f : Flag) (s : State) : (addFlag f s).straps = s.straps := by
  unfold addFlag; split
  · rfl
  · dsimp only; split <;> simp
@[simp] theorem addFlag_startKind (f : Flag) (s : State) : (addFlag f s).startKind = s.startKind := by
  unfold addFlag; split
  · rfl
  · dsimp only; split <;> simp
@[simp] theorem addFlag_clearing (f : Flag) (s : State) : (addFlag f s).clearing = s.clearing := by
  unfold addFlag; split
  · rfl
  · dsimp only; split <;> simp
@[simp] theorem addFlag_vddGood (f : Flag) (s : State) : (addFlag f s).vddGood = s.vddGood := by
  unfold addFlag; split
  · rfl
  · dsimp only; split <;> simp
@[simp] theorem addFlag_mark (f : Flag) (s : State) : (addFlag f s).mark = s.mark := by
  unfold addFlag; split
  · rfl
  · dsimp only; split <;> simp
@[simp] theorem addFlag_prot (f : Flag) (s : State) : (addFlag f s).prot = s.prot := by
  unfold addFlag; split
  · rfl
  · dsimp only; split <;> simp
@[simp] theorem addFlag_slots (f : Flag) (s : State) : (addFlag f s).slots = s.slots := by
  unfold addFlag; split
  · rfl
  · dsimp only; split <;> simp
@[simp] theorem addFlag_store (f : Flag) (s : State) : (addFlag f s).store = s.store := by
  unfold addFlag; split
  · rfl
  · dsimp only; split <;> simp
@[simp] theorem addFlag_view (f : Flag) (s : State) : (addFlag f s).view = s.view := by
  unfold addFlag; split
  · rfl
  · dsimp only; split <;> simp
@[simp] theorem addFlag_gap (f : Flag) (s : State) : (addFlag f s).gap = s.gap := by
  unfold addFlag; split
  · rfl
  · dsimp only; split <;> simp
@[simp] theorem addFlag_stuck (f : Flag) (s : State) : (addFlag f s).stuck = s.stuck := by
  unfold addFlag; split
  · rfl
  · dsimp only; split <;> simp
@[simp] theorem addFlag_marker (f : Flag) (s : State) : (addFlag f s).marker = s.marker := by
  unfold addFlag; split
  · rfl
  · dsimp only; split <;> simp
@[simp] theorem addFlag_own (f : Flag) (s : State) : (addFlag f s).own = s.own := by
  unfold addFlag; split
  · rfl
  · dsimp only; split <;> simp
@[simp] theorem addFlag_frame (f : Flag) (s : State) : (addFlag f s).frame = s.frame := by
  unfold addFlag; split
  · rfl
  · dsimp only; split <;> simp
@[simp] theorem addFlag_arbiter (f : Flag) (s : State) : (addFlag f s).arbiter = s.arbiter := by
  unfold addFlag; split
  · rfl
  · dsimp only; split <;> simp
@[simp] theorem addFlag_scrubPtr (f : Flag) (s : State) : (addFlag f s).scrubPtr = s.scrubPtr := by
  unfold addFlag; split
  · rfl
  · dsimp only; split <;> simp
@[simp] theorem addFlag_nextTag (f : Flag) (s : State) : (addFlag f s).nextTag = s.nextTag := by
  unfold addFlag; split
  · rfl
  · dsimp only; split <;> simp
@[simp] theorem addFlag_result (f : Flag) (s : State) : (addFlag f s).result = s.result := by
  unfold addFlag; split
  · rfl
  · dsimp only; split <;> simp
@[simp] theorem addFlag_accrued (f : Flag) (s : State) : (addFlag f s).accrued = s.accrued := by
  unfold addFlag; split
  · rfl
  · dsimp only; split <;> simp
@[simp] theorem addFlag_faults (f : Flag) (s : State) : (addFlag f s).faults = s.faults := by
  unfold addFlag; split
  · rfl
  · dsimp only; split <;> simp
@[simp] theorem addFlag_editPage (f : Flag) (s : State) : (addFlag f s).editPage = s.editPage := by
  unfold addFlag; split
  · rfl
  · dsimp only; split <;> simp
@[simp] theorem addFlag_editOffset (f : Flag) (s : State) : (addFlag f s).editOffset = s.editOffset := by
  unfold addFlag; split
  · rfl
  · dsimp only; split <;> simp
@[simp] theorem addFlag_selHigh (f : Flag) (s : State) : (addFlag f s).selHigh = s.selHigh := by
  unfold addFlag; split
  · rfl
  · dsimp only; split <;> simp
@[simp] theorem addFlag_txn (f : Flag) (s : State) : (addFlag f s).txn = s.txn := by
  unfold addFlag; split
  · rfl
  · dsimp only; split <;> simp
@[simp] theorem addFlag_pointerPage (f : Flag) (s : State) : (addFlag f s).pointerPage = s.pointerPage := by
  unfold addFlag; split
  · rfl
  · dsimp only; split <;> simp
@[simp] theorem addFlag_pointerWord (f : Flag) (s : State) : (addFlag f s).pointerWord = s.pointerWord := by
  unfold addFlag; split
  · rfl
  · dsimp only; split <;> simp
@[simp] theorem addFlag_short (f : Flag) (s : State) : (addFlag f s).short = s.short := by
  unfold addFlag; split
  · rfl
  · dsimp only; split <;> simp
@[simp] theorem addFlag_sdo (f : Flag) (s : State) : (addFlag f s).sdo = s.sdo := by
  unfold addFlag; split
  · rfl
  · dsimp only; split <;> simp
@[simp] theorem addFlag_latches (f : Flag) (s : State) : (addFlag f s).latches = s.latches := by
  unfold addFlag; split
  · rfl
  · dsimp only; split <;> simp
@[simp] theorem addFlag_enables (f : Flag) (s : State) : (addFlag f s).enables = s.enables := by
  unfold addFlag; split
  · rfl
  · dsimp only; split <;> simp
@[simp] theorem addFlag_master (f : Flag) (s : State) : (addFlag f s).master = s.master := by
  unfold addFlag; split
  · rfl
  · dsimp only; split <;> simp
@[simp] theorem addFlag_pending (f : Flag) (s : State) : (addFlag f s).pending = s.pending := by
  unfold addFlag; split
  · rfl
  · dsimp only; split <;> simp

/-! ### addFlagIf -/

@[simp] theorem addFlagIf_station (b : Bool) (f : Flag) (s : State) : (addFlagIf b f s).station = s.station := by
  cases b <;> simp [addFlagIf]
@[simp] theorem addFlagIf_straps (b : Bool) (f : Flag) (s : State) : (addFlagIf b f s).straps = s.straps := by
  cases b <;> simp [addFlagIf]
@[simp] theorem addFlagIf_startKind (b : Bool) (f : Flag) (s : State) : (addFlagIf b f s).startKind = s.startKind := by
  cases b <;> simp [addFlagIf]
@[simp] theorem addFlagIf_clearing (b : Bool) (f : Flag) (s : State) : (addFlagIf b f s).clearing = s.clearing := by
  cases b <;> simp [addFlagIf]
@[simp] theorem addFlagIf_vddGood (b : Bool) (f : Flag) (s : State) : (addFlagIf b f s).vddGood = s.vddGood := by
  cases b <;> simp [addFlagIf]
@[simp] theorem addFlagIf_mark (b : Bool) (f : Flag) (s : State) : (addFlagIf b f s).mark = s.mark := by
  cases b <;> simp [addFlagIf]
@[simp] theorem addFlagIf_prot (b : Bool) (f : Flag) (s : State) : (addFlagIf b f s).prot = s.prot := by
  cases b <;> simp [addFlagIf]
@[simp] theorem addFlagIf_slots (b : Bool) (f : Flag) (s : State) : (addFlagIf b f s).slots = s.slots := by
  cases b <;> simp [addFlagIf]
@[simp] theorem addFlagIf_store (b : Bool) (f : Flag) (s : State) : (addFlagIf b f s).store = s.store := by
  cases b <;> simp [addFlagIf]
@[simp] theorem addFlagIf_view (b : Bool) (f : Flag) (s : State) : (addFlagIf b f s).view = s.view := by
  cases b <;> simp [addFlagIf]
@[simp] theorem addFlagIf_gap (b : Bool) (f : Flag) (s : State) : (addFlagIf b f s).gap = s.gap := by
  cases b <;> simp [addFlagIf]
@[simp] theorem addFlagIf_stuck (b : Bool) (f : Flag) (s : State) : (addFlagIf b f s).stuck = s.stuck := by
  cases b <;> simp [addFlagIf]
@[simp] theorem addFlagIf_marker (b : Bool) (f : Flag) (s : State) : (addFlagIf b f s).marker = s.marker := by
  cases b <;> simp [addFlagIf]
@[simp] theorem addFlagIf_own (b : Bool) (f : Flag) (s : State) : (addFlagIf b f s).own = s.own := by
  cases b <;> simp [addFlagIf]
@[simp] theorem addFlagIf_frame (b : Bool) (f : Flag) (s : State) : (addFlagIf b f s).frame = s.frame := by
  cases b <;> simp [addFlagIf]
@[simp] theorem addFlagIf_arbiter (b : Bool) (f : Flag) (s : State) : (addFlagIf b f s).arbiter = s.arbiter := by
  cases b <;> simp [addFlagIf]
@[simp] theorem addFlagIf_scrubPtr (b : Bool) (f : Flag) (s : State) : (addFlagIf b f s).scrubPtr = s.scrubPtr := by
  cases b <;> simp [addFlagIf]
@[simp] theorem addFlagIf_nextTag (b : Bool) (f : Flag) (s : State) : (addFlagIf b f s).nextTag = s.nextTag := by
  cases b <;> simp [addFlagIf]
@[simp] theorem addFlagIf_result (b : Bool) (f : Flag) (s : State) : (addFlagIf b f s).result = s.result := by
  cases b <;> simp [addFlagIf]
@[simp] theorem addFlagIf_accrued (b : Bool) (f : Flag) (s : State) : (addFlagIf b f s).accrued = s.accrued := by
  cases b <;> simp [addFlagIf]
@[simp] theorem addFlagIf_faults (b : Bool) (f : Flag) (s : State) : (addFlagIf b f s).faults = s.faults := by
  cases b <;> simp [addFlagIf]
@[simp] theorem addFlagIf_editPage (b : Bool) (f : Flag) (s : State) : (addFlagIf b f s).editPage = s.editPage := by
  cases b <;> simp [addFlagIf]
@[simp] theorem addFlagIf_editOffset (b : Bool) (f : Flag) (s : State) : (addFlagIf b f s).editOffset = s.editOffset := by
  cases b <;> simp [addFlagIf]
@[simp] theorem addFlagIf_selHigh (b : Bool) (f : Flag) (s : State) : (addFlagIf b f s).selHigh = s.selHigh := by
  cases b <;> simp [addFlagIf]
@[simp] theorem addFlagIf_txn (b : Bool) (f : Flag) (s : State) : (addFlagIf b f s).txn = s.txn := by
  cases b <;> simp [addFlagIf]
@[simp] theorem addFlagIf_pointerPage (b : Bool) (f : Flag) (s : State) : (addFlagIf b f s).pointerPage = s.pointerPage := by
  cases b <;> simp [addFlagIf]
@[simp] theorem addFlagIf_pointerWord (b : Bool) (f : Flag) (s : State) : (addFlagIf b f s).pointerWord = s.pointerWord := by
  cases b <;> simp [addFlagIf]
@[simp] theorem addFlagIf_short (b : Bool) (f : Flag) (s : State) : (addFlagIf b f s).short = s.short := by
  cases b <;> simp [addFlagIf]
@[simp] theorem addFlagIf_sdo (b : Bool) (f : Flag) (s : State) : (addFlagIf b f s).sdo = s.sdo := by
  cases b <;> simp [addFlagIf]
@[simp] theorem addFlagIf_latches (b : Bool) (f : Flag) (s : State) : (addFlagIf b f s).latches = s.latches := by
  cases b <;> simp [addFlagIf]
@[simp] theorem addFlagIf_enables (b : Bool) (f : Flag) (s : State) : (addFlagIf b f s).enables = s.enables := by
  cases b <;> simp [addFlagIf]
@[simp] theorem addFlagIf_master (b : Bool) (f : Flag) (s : State) : (addFlagIf b f s).master = s.master := by
  cases b <;> simp [addFlagIf]
@[simp] theorem addFlagIf_pending (b : Bool) (f : Flag) (s : State) : (addFlagIf b f s).pending = s.pending := by
  cases b <;> simp [addFlagIf]

/-! ### Slots under these operations -/

/-- A slot under the end of an upkeep operation. -/
@[simp] theorem endUpkeep_slot (s : State) (i : SlotIx) : (endUpkeep s).slot i = s.slot i := slot_congr (by simp) i

/-- A slot under a flag added. -/
@[simp] theorem addFlag_slot (f : Flag) (s : State) (i : SlotIx) : (addFlag f s).slot i = s.slot i := slot_congr (by simp) i

/-- A slot under a flag added on a condition. -/
@[simp] theorem addFlagIf_slot (b : Bool) (f : Flag) (s : State) (i : SlotIx) : (addFlagIf b f s).slot i = s.slot i :=
  slot_congr (by simp) i

/-- A failed recovery frame, at its own slot and at the others (R16). -/
theorem failRecovery_slot (i j : SlotIx) (s : State) :
    (failRecovery i s).slot j = if j = i then (s.slot i).triedOnceMore else s.slot j := by
  unfold failRecovery Slot.triedOnceMore
  by_cases h0 : (s.slot i).attempts = 0
  · simp [h0, slot_setSlot]
  · by_cases h1 : (s.slot i).attempts = 1
    · simp [h1, slot_setSlot]
    · have b0 : ((s.slot i).attempts == 0) = false := by simpa using h0
      have b1 : ((s.slot i).attempts == 1) = false := by simpa using h1
      simp [h0, h1, b0, b1, slot_setSlot]

/-! ### The entry in flight -/

/-- The head in flight completes: it leaves the queue with what it leaves behind (R139). -/
theorem completeEntry_head {s : State} {e : Entry} {rest : List Entry} (h : HeadInFlight s e rest) (code : Code)
    (holder : Option StationNo) (status : Option Bool) (words : List Word) :
    completeEntry code holder status words s = headEnds e rest code holder status words s := by
  simp [completeEntry, h.1, h.2.1, h.2.2]

/-- The head in flight completes APPLIED and leaves nothing (R141). -/
theorem completeApplied_head {s : State} {e : Entry} {rest : List Entry} (h : HeadInFlight s e rest) :
    completeApplied s = endEntry e { s with queue := rest } := by
  simp [completeApplied, h.1, h.2.1, h.2.2]

/-- The head in flight counts its first or second attempt and stays, or fails finally at the third (R139). -/
theorem countAttempt_head {s : State} {e : Entry} {rest : List Entry} (h : HeadInFlight s e rest) (cause : Code) :
    countAttempt cause s =
      if e.attempts = 0 then { s with queue := { e with attempts := 1, inFlight := false } :: rest }
      else if e.attempts = 1 then { s with queue := { e with attempts := 2, inFlight := false } :: rest }
      else headEnds { e with attempts := 3, inFlight := false } rest cause none none [] s := by
  simp [countAttempt, h.1, h.2.1, h.2.2]

/-- A flag added in a frame of the head's own is gathered by the head, which stays in flight (R146). -/
theorem addFlag_head {s : State} {e : Entry} {rest : List Entry} {request : List Byte} (f : Flag)
    (ho : s.own = some ⟨.entry, request⟩) (h : HeadInFlight s e rest) :
    HeadInFlight (addFlag f s) { e with gathered := withFlag f e.gathered } rest := by
  refine ⟨?_, ?_, h.2.2⟩ <;> simp [addFlag, ho, modifyCurrent, h.1, h.2.1]

end Sys2Proof.Machine
end

