-- ==== Sys2Proof/Laws/Bits.lean ====
section
/-! SUPPORT. Bytes bit by bit: what the bits of a byte spell, one bit of a frame, a byte in which this station loses nothing, and what a contest lost leaves alone. -/

namespace Sys2Proof.Machine

/-! ### A byte and its bits -/

/-- The bits of a byte spell it. -/
@[simp] theorem byteOf_byteBits (b : Byte) : byteOf (byteBits b) = b := by
  revert b
  decide +kernel

/-- A byte has eight bits. -/
@[simp] theorem length_byteBits (b : Byte) : (byteBits b).length = 8 := rfl

/-- A byte's events are its bits, first bit first. -/
theorem byteComplete_bits (others : Byte) (s : State) :
    byteComplete others s = bitComplete (!others.getLsbD 0) (bitComplete (!others.getLsbD 1)
      (bitComplete (!others.getLsbD 2) (bitComplete (!others.getLsbD 3) (bitComplete (!others.getLsbD 4)
        (bitComplete (!others.getLsbD 5) (bitComplete (!others.getLsbD 6)
          (bitComplete (!others.getLsbD 7) s))))))) := by
  simp only [byteComplete, byteBits, List.foldl]

/-! ### One bit of a byte -/

@[simp] theorem withRecord_frame (s : State) (r : FrameRecord) : (s.withRecord r).frame = some r := rfl
@[simp] theorem withRecord_arbiter (s : State) (r : FrameRecord) : (s.withRecord r).arbiter = s.arbiter := rfl
@[simp] theorem withRecord_withRecord (s : State) (r q : FrameRecord) :
    (s.withRecord r).withRecord q = s.withRecord q := rfl
@[simp] theorem sampled_bits (r : FrameRecord) (x y : Bool) : (r.sampled x y).bits = r.bits ++ [!(y || x)] := rfl
@[simp] theorem sampled_low (r : FrameRecord) (x y : Bool) : (r.sampled x y).low = false := rfl
@[simp] theorem sampled_part (r : FrameRecord) (x y : Bool) : (r.sampled x y).part = r.part := rfl
@[simp] theorem sampled_point (r : FrameRecord) (x y : Bool) : (r.sampled x y).point = r.point := rfl
@[simp] theorem sampled_demoted (r : FrameRecord) (x y : Bool) : (r.sampled x y).demoted = r.demoted := rfl

/-- What a station places in a byte does not depend on the bits it has read. -/
@[simp] theorem ownByte_sampled (r q : FrameRecord) (x y : Bool) (s : State) :
    ownByte (r.sampled x y) (s.withRecord q) = ownByte r s := rfl

/-- The low phase where nothing is decided: within a byte, or before a byte for which nothing is prepared. -/
theorem lowPhase_plain {s : State} {r : FrameRecord} (hf : s.frame = some r) (hp : r.part ≠ .onlooker) (hl : r.low = false)
    (hn : r.bits ≠ [] ∨ (r.point ≠ .answer ∧ r.point ≠ .bid ∧ r.point ≠ .ack ∧ r.point ≠ .winnerAck ∧ r.point ≠ .over)) :
    lowPhase s = s.withRecord { r with low := true, pbdHeld := false } := by
  have hm : modifyFrame (fun r => { r with low := true, pbdHeld := false }) s
      = s.withRecord { r with low := true, pbdHeld := false } := by
    simp [modifyFrame, State.withRecord, hf]
  simp only [lowPhase, hf, hl, hm, Bool.false_or, beq_iff_eq, hp, if_false]
  by_cases hb : r.bits = []
  · obtain ⟨h1, h2, h3, h4, h5⟩ := hn.resolve_left (fun h => h hb)
    simp only [hb, List.isEmpty_nil, Bool.not_true, Bool.false_eq_true, if_false]
    cases r.kind with
    | none => rfl
    | some k => cases hq : r.point <;> simp_all
  · simp [hb]

/-- A bit of a byte with no access of the frame's own: what is placed is sampled as it stands (R24, R34). -/
theorem bitComplete_byte {s : State} {r : FrameRecord} (others : Bool) (hf : s.frame = some r) (hp : r.part ≠ .onlooker)
    (hb : r.point.isByte = true) (hn : r.low = true ∨ r.bits ≠ []) (ha : s.arbiter.busyFor .frame = false) :
    bitComplete others s = byteBit others { r with low := true, pbdHeld := r.low && r.pbdHeld }
      (s.withRecord { r with low := true, pbdHeld := r.low && r.pbdHeld }) := by
  have hr : ready s = s.withRecord { r with low := true, pbdHeld := r.low && r.pbdHeld } := by
    by_cases hl : r.low = true
    · rw [ready_free hf hl ha]
      obtain ⟨⟩ := r
      simp only at hl
      subst hl
      simp [State.withRecord, ← hf]
    · have hl' : r.low = false := by simpa using hl
      rw [ready, lowPhase_plain hf hp hl' (Or.inl (hn.resolve_left hl)), settle_free (by exact ha)]
      simp [hl']
  simp only [bitComplete, hr, withRecord_frame, hb, if_true]

/-- A demoted slot follows a winner in the holder byte alone. -/
theorem followWinner_of {r : FrameRecord} (h : r.point ≠ .holder ∨ r.demoted = false) (s : State) :
    followWinner r s = s := by
  rcases h with h | h <;> simp [followWinner, h]

/-- A bit that costs this station nothing: it is alone in it, it wins it, or it has no contest to lose (R24, R31, R53). -/
theorem byteBit_kept {s : State} {r : FrameRecord} {others : Bool} (hd : r.point ≠ .holder ∨ r.demoted = false)
    (hk : others = true → drivesBit r s = false →
      ∀ q : FrameRecord, q = r.sampled true false → loseContest q (s.withRecord q) = s.withRecord q) :
    byteBit others r s =
      if r.bits.length < 7 then s.withRecord (r.sampled others (drivesBit r s))
      else byteRead (byteOf (r.bits ++ [!(drivesBit r s || others)]))
        (s.withRecord (r.sampled others (drivesBit r s))) := by
  have hl : (if (others && !drivesBit r s) = true
      then loseContest (r.sampled others (drivesBit r s))
        (s.withRecord (r.sampled others (drivesBit r s)))
      else s.withRecord (r.sampled others (drivesBit r s)))
      = s.withRecord (r.sampled others (drivesBit r s)) := by
    cases ho : others <;> cases hw : drivesBit r s <;>
      simp only [Bool.and_false, Bool.and_true, Bool.not_false, Bool.not_true, Bool.false_eq_true, if_false, if_true]
    exact hk ho hw _ rfl
  unfold byteBit
  dsimp only
  rw [hl, followWinner_of (by simpa using hd)]
  simp only [sampled_bits, List.length_append, List.length_singleton]
  have h8 : (r.bits.length + 1 < 8) = (r.bits.length < 7) := propext (by omega)
  simp only [h8]

/-- A bit after the end of the frame, at a station that is not its originator, leaves the record past it (R59). -/
theorem singleBit_past {s : State} {r : FrameRecord} {k : Kind} (others : Bool) (hf : s.frame = some r)
    (hk : r.kind = some k) (hp : r.part = .participant) (ho : r.point = .over) :
    singleBit others r s = s.withRecord { r.fieldDone .past with pbdHeld := false } := by
  have hs : ∀ b, singleBit others r s = pastBit k { r with pbdHeld := b } s → singleBit others r s
      = s.withRecord { r.fieldDone .past with pbdHeld := false } := by
    intro b h
    have hn : ¬ (FrameRecord.originates { r with pbdHeld := b } = true ∧ r.closed = false) := by
      simp [FrameRecord.originates, hp]
    rw [h, pastBit, if_neg hn]
    simp [modifyFrame, State.withRecord, hf]
  refine hs (ownBit r s) ?_
  have hk' : FrameRecord.kind { r with pbdHeld := ownBit r s } = some k := hk
  simp only [singleBit, ho] at hk' ⊢
  simp only [hk']

/-- The low phase after the end of a frame decides nothing at a station that is not its originator. -/
theorem lowPhase_over {s : State} {r : FrameRecord} (hf : s.frame = some r) (hp : r.part = .participant)
    (ho : r.point = .over) :
    lowPhase s = s.withRecord { r with low := true, pbdHeld := r.low && r.pbdHeld } := by
  by_cases hl : r.low = true
  · have hs : lowPhase s = s := by simp [lowPhase, hf, hl]
    obtain ⟨⟩ := r
    simp only at hl
    subst hl
    rw [hs]
    simp [State.withRecord, ← hf]
  · have hm : modifyFrame (fun r => { r with low := true, pbdHeld := false }) s
        = s.withRecord { r with low := true, pbdHeld := false } := by
      simp [modifyFrame, State.withRecord, hf]
    have hl' : r.low = false := by simpa using hl
    have hc : ∀ k t, closingBegins k r t = t := by simp [closingBegins, FrameRecord.originates, hp]
    simp only [lowPhase, hf, hl', hp, hm, ho, hc, Bool.false_and]
    cases r.kind <;> simp

/-- A bit after the end of the frame, its low phase and all. -/
theorem bitComplete_past {s : State} {r : FrameRecord} (others : Bool) (hf : s.frame = some r) (hk : r.kind.isSome = true)
    (hp : r.part = .participant) (ho : r.point = .over) (ha : s.arbiter.busyFor .frame = false) :
    bitComplete others s = s.withRecord { r.fieldDone .past with pbdHeld := false } := by
  obtain ⟨k, hk⟩ := Option.isSome_iff_exists.mp hk
  have hr : ready s = s.withRecord { r with low := true, pbdHeld := r.low && r.pbdHeld } := by
    rw [ready, lowPhase_over hf hp ho, settle_free (by exact ha)]
  have hb : r.point.isByte = false := by simp [ho, Point.isByte]
  rw [bitComplete, hr]
  simp only [withRecord_frame, hb, Bool.false_eq_true, if_false]
  exact singleBit_past (k := k) others rfl hk hp ho

/-! ### A whole byte -/

/-- The record with given bits of its byte read. -/
def FrameRecord.reading (r : FrameRecord) (bits : List Bool) (low held alone : Bool) : FrameRecord :=
  { r with bits := bits, low := low, pbdHeld := held, alone := alone }

/-- Whether an opener has been alone in a bit it drove, after bit `n` of its byte `own` against `others` (R33). -/
def FrameRecord.aloneAt (r : FrameRecord) (own others : Byte) (n : Nat) (alone : Bool) : Bool :=
  alone || (!own.getLsbD n && !(!others.getLsbD n) && r.part == .opener)

/-- The same after the whole byte. -/
def FrameRecord.aloneIn (r : FrameRecord) (own others : Byte) : Bool :=
  [7, 6, 5, 4, 3, 2, 1, 0].foldl (fun alone n => r.aloneAt own others n alone) r.alone

/-- Only an opener comes to be alone. -/
theorem aloneIn_of {r : FrameRecord} (h : r.part ≠ .opener) (own others : Byte) : r.aloneIn own others = r.alone := by
  have hb : (r.part == .opener) = false := beq_eq_false_iff_ne.mpr h
  simp [FrameRecord.aloneIn, FrameRecord.aloneAt, hb]

/-- This station loses nothing in a byte in which the others place `others`: no bit is contested, or there is no contest to
lose. -/
def LosesNothing (others : Byte) (r : FrameRecord) (s : State) : Prop :=
  (∀ n, others.getLsbD n = false → n < 8 → (ownByte r s).getLsbD n = false) ∨
    ∀ bits low held alone, loseContest (r.reading bits low held alone) (s.withRecord (r.reading bits low held alone))
      = s.withRecord (r.reading bits low held alone)

/-- With nothing placed by the others. -/
theorem losesNothing_alone (r : FrameRecord) (s : State) : LosesNothing 0xFF r s := by
  refine Or.inl fun n h h8 => ?_
  interval_cases n <;> simp at h

/-- In an answer byte or its check no station has a contest. -/
theorem losesNothing_answer {r : FrameRecord} (h : r.point = .answer ∨ r.point = .answerCheck) (others : Byte) (s : State) :
    LosesNothing others r s := by
  refine Or.inr fun bits low held alone => ?_
  rcases h with h | h <;> simp [loseContest, FrameRecord.reading, h]

/-- In the request part only an opener has one (R31). -/
theorem losesNothing_request {r : FrameRecord}
    (h : r.point = .header ∨ r.point = .page ∨ r.point = .field ∨ r.point = .check) (hp : r.part ≠ .opener) (others : Byte)
    (s : State) : LosesNothing others r s := by
  refine Or.inr fun bits low held alone => ?_
  rcases h with h | h | h | h <;> simp [loseContest, FrameRecord.reading, h, hp]

/-- In the holder byte only a driver that has not lost has one (R53). -/
theorem losesNothing_holder {r : FrameRecord} (h : r.point = .holder) (hd : r.roleDrive = .none ∨ r.contest = .lost)
    (others : Byte) (s : State) : LosesNothing others r s := by
  refine Or.inr fun bits low held alone => ?_
  simp only [loseContest, FrameRecord.reading, h]
  rw [if_pos hd]

/-- In the bid byte only a bidder has one (R75). -/
theorem losesNothing_bid {r : FrameRecord} (h : r.point = .bid) (hs : r.setAside = none) (others : Byte) (s : State) :
    LosesNothing others r s := by
  refine Or.inr fun bits low held alone => ?_
  obtain ⟨⟩ := r
  simp only at h hs
  subst h hs
  rfl

/-- Bit `n` of such a byte, counted from its last. -/
theorem bitComplete_kept {s : State} {r : FrameRecord} {others : Byte} (n : Nat) {bits : List Bool} {low held alone : Bool}
    (hp : r.part ≠ .onlooker) (hb : r.point.isByte = true) (hn : low = true ∨ bits ≠ [])
    (ha : s.arbiter.busyFor .frame = false) (hd : r.point ≠ .holder ∨ r.demoted = false) (hk : LosesNothing others r s)
    (h8 : bits.length + n = 7) :
    bitComplete (!others.getLsbD n) (s.withRecord (r.reading bits low held alone)) =
      if bits.length < 7
      then s.withRecord (r.reading (bits ++ [(ownByte r s &&& others).getLsbD n]) false (!(ownByte r s).getLsbD n)
        (r.aloneAt (ownByte r s) others n alone))
      else byteRead (byteOf (bits ++ [(ownByte r s &&& others).getLsbD n]))
        (s.withRecord (r.reading (bits ++ [(ownByte r s &&& others).getLsbD n]) false (!(ownByte r s).getLsbD n)
          (r.aloneAt (ownByte r s) others n alone))) := by
  have hi : 7 - bits.length = n := by omega
  have hdr : ∀ q : FrameRecord, ∀ l h a, drivesBit (r.reading bits l h a) (s.withRecord q) = !(ownByte r s).getLsbD n := by
    intro q l h a
    have hq : ownByte (r.reading bits l h a) (s.withRecord q) = ownByte r s := rfl
    have h1 : (r.reading bits l h a).part = r.part := rfl
    have h2 : (r.reading bits l h a).point = r.point := rfl
    have h3 : (r.reading bits l h a).bits = bits := rfl
    simp [drivesBit, hq, h1, h2, h3, hp, hb, hi]
  have key := byteBit_kept (s := (s.withRecord (r.reading bits low held alone)).withRecord
      (r.reading bits true (low && held) alone)) (r := r.reading bits true (low && held) alone) (others := !others.getLsbD n) hd (by
    intro ho hw q hq
    rw [withRecord_withRecord, hdr] at hw
    subst hq
    rcases hk with h | h
    · have := h n (by simpa using ho) (by omega)
      simp [this] at hw
    · have hs : (r.reading bits true (low && held) alone).sampled true false = r.reading (bits ++ [false]) false false alone := by
        simp [FrameRecord.sampled, FrameRecord.reading]
      rw [hs]
      exact h (bits ++ [false]) false false alone)
  have hbit : (!(!(ownByte r s).getLsbD n || !others.getLsbD n)) = (ownByte r s &&& others).getLsbD n := by simp
  have hs : (r.reading bits true (low && held) alone).sampled (!others.getLsbD n) (!(ownByte r s).getLsbD n)
      = r.reading (bits ++ [(ownByte r s &&& others).getLsbD n]) false (!(ownByte r s).getLsbD n)
        (r.aloneAt (ownByte r s) others n alone) := by
    rw [FrameRecord.sampled, hbit]
    rfl
  rw [withRecord_withRecord, hdr, hbit, hs] at key
  rw [bitComplete_byte (s := s.withRecord (r.reading bits low held alone)) (r := r.reading bits low held alone) _ rfl hp hb
    hn ha]
  exact key

/-- A byte in which this station loses nothing, its low phase past: the byte read is what it and the others place together
(R22, R24). -/
theorem byteComplete_kept {s : State} {r : FrameRecord} {others : Byte} (hf : s.frame = some r) (hp : r.part ≠ .onlooker)
    (hb : r.point.isByte = true) (hn : r.bits = []) (hl : r.low = true) (ha : s.arbiter.busyFor .frame = false)
    (hd : r.point ≠ .holder ∨ r.demoted = false) (hk : LosesNothing others r s) :
    byteComplete others s = byteRead (ownByte r s &&& others)
      (s.withRecord (r.reading (byteBits (ownByte r s &&& others)) false (!(ownByte r s).getLsbD 0)
        (r.aloneIn (ownByte r s) others))) := by
  have h0 : s = s.withRecord (r.reading [] true r.pbdHeld r.alone) := by
    obtain ⟨⟩ := r
    simp only at hn hl
    subst hn hl
    simp [State.withRecord, FrameRecord.reading, ← hf]
  have step := fun (n : Nat) (bits : List Bool) (low held alone : Bool) (h : low = true ∨ bits ≠ [])
      (h8 : bits.length + n = 7) =>
    bitComplete_kept (held := held) (alone := alone) n hp hb h ha hd hk h8
  have later := fun (n : Nat) (bits : List Bool) (held alone : Bool) (hn : bits ≠ []) (h8 : bits.length + n = 7) =>
    step n bits false held alone (Or.inr hn) h8
  rw [byteComplete_bits]
  conv_lhs => rw [h0]
  rw [step 7 [] true _ _ (Or.inl rfl) rfl, if_pos (by decide), later 6 _ _ _ (by simp) (by simp), if_pos (by simp),
    later 5 _ _ _ (by simp) (by simp), if_pos (by simp), later 4 _ _ _ (by simp) (by simp), if_pos (by simp),
    later 3 _ _ _ (by simp) (by simp), if_pos (by simp), later 2 _ _ _ (by simp) (by simp), if_pos (by simp),
    later 1 _ _ _ (by simp) (by simp), if_pos (by simp), later 0 _ _ _ (by simp) (by simp), if_neg (by simp)]
  simp only [List.nil_append, List.cons_append]
  rw [← byteBits, byteOf_byteBits]
  rfl

/-- A byte before which nothing is decided: its low phase may still be to come. -/
theorem byteComplete_low {s : State} {r : FrameRecord} {others : Byte} (hf : s.frame = some r) (hp : r.part ≠ .onlooker)
    (hn : r.bits = []) (hl : r.low = false) (ha : s.arbiter.busyFor .frame = false)
    (hpt : r.point = .header ∨ r.point = .page ∨ r.point = .field ∨ r.point = .check ∨ r.point = .holder
      ∨ r.point = .answerCheck) :
    byteComplete others s = byteComplete others (s.withRecord (r.reading [] true false r.alone)) := by
  have hlow : lowPhase s = s.withRecord (r.reading [] true false r.alone) := by
    rw [lowPhase_plain hf hp hl (Or.inr (by rcases hpt with h | h | h | h | h | h <;> simp [h]))]
    simp [FrameRecord.reading, hn]
  have hr : ready s = ready (s.withRecord (r.reading [] true false r.alone)) := by
    rw [ready_free (s := s.withRecord (r.reading [] true false r.alone)) (r := r.reading [] true false r.alone) rfl rfl ha,
      ready, hlow,
      settle_free (by exact ha)]
  have hfirst : ∀ o, bitComplete o s = bitComplete o (s.withRecord (r.reading [] true false r.alone)) := by
    intro o
    simp only [bitComplete, hr]
  rw [byteComplete_bits, byteComplete_bits, hfirst]

/-! ### What a contest lost leaves alone -/

/-- An opener that loses arbitration touches no slot and no word, and its frame is no longer its own (R31, R32). -/
theorem loseFrame_spec {s : State} (ha : s.abandoned = none) :
    (loseFrame s).slots = s.slots ∧ (loseFrame s).store = s.store ∧ (loseFrame s).arbiter = s.arbiter ∧
      (loseFrame s).own = none ∧ (loseFrame s).latches = s.latches ∧
      (loseFrame s).frame = s.frame.map fun r => { r with part := .participant } := by
  have hk : ∀ t : State, t.abandoned = none → (keepEntry t).slots = t.slots ∧ (keepEntry t).store = t.store ∧ (keepEntry t).arbiter = t.arbiter ∧
      (keepEntry t).latches = t.latches ∧ (keepEntry t).frame = t.frame := by
    intro t h
    simp [keepEntry, h]
  unfold loseFrame loseArbitration
  cases ho : s.own with
  | none => simp [modifyFrame, ho]
  | some own =>
    have hf : ∀ t : State, t.abandoned = none → (addFlag .arbLost t).abandoned = none := by
      intro t h
      simp only [addFlag, modifyCurrent, h]
      cases t.own with
      | none => exact h
      | some o => cases hop : o.op <;> cases t.queue <;> simp [hop]
    cases hop : own.op with
    | upkeep k i => simp [modifyFrame, ho, hop]
    | entry =>
      have h := hk _ (hf (modifyFrame (fun r => { r with part := .participant }) s) ha)
      simp only [modifyFrame, addFlag_slots, addFlag_store, addFlag_arbiter, addFlag_latches, addFlag_frame] at h ⊢
      simp only [ho, hop] at h ⊢
      exact ⟨h.1, h.2.1, h.2.2.1, trivial, h.2.2.2.1, h.2.2.2.2⟩

/-- A demotion touches no word (R53). -/
theorem demoteLoser_store (r : FrameRecord) (i : SlotIx) (s : State) : (demoteLoser r i s).store = s.store := by
  have h : (reportRole r.participates (becomeStale i (some r.winner)
      (modifyFrame (fun r => { r with demoted := true }) s))).store = s.store := by
    cases r.participates <;> rfl
  simp only [demoteLoser]
  split
  · split <;> simp [h]
  · exact h

/-- A holder contest lost touches no word (R53, R54). -/
theorem loseHolder_store (r : FrameRecord) (s : State) : (loseHolder r s).store = s.store := by
  unfold loseHolder onSlotOfRecord
  dsimp only
  split
  · rfl
  · split
    · split
      · exact demoteLoser_store _ _ _
      · rfl
    · rfl

/-- A demotion changes the slot of record alone (R53). -/
theorem demoteLoser_slot (r : FrameRecord) (i j : SlotIx) (s : State) :
    (demoteLoser r i s).slot j = if j = i then (s.slot i).staleBehind r.winner else s.slot j := by
  have h : (reportRole r.participates (becomeStale i (some r.winner)
      (modifyFrame (fun r => { r with demoted := true }) s))).slot j
      = if j = i then (s.slot i).staleBehind r.winner else s.slot j := by
    have hr : ∀ (b : Bool) (t : State), (reportRole b t).slot j = t.slot j := by intro b t; cases b <;> rfl
    rw [hr, becomeStale, slot_setSlot]
    rfl
  simp only [demoteLoser]
  split
  · split <;> simp [h]
  · exact h

end Sys2Proof.Machine
end

