-- ==== Sys2Proof/Laws/Checks.lean ====
section
/-! SUPPORT. The two CRCs as folds over their bytes (R183, R184). -/

namespace Sys2Proof.Machine

/-- Going on with a value as a numeral is going on with the value. -/
@[simp] theorem evaluated_eq {w : Nat} {α : Type} (r : BitVec w) (k : BitVec w → α) : evaluated r k = k r := by
  have h : BitVec.ofNat w r.toNat = r := BitVec.ofNat_toNat w r |>.trans (BitVec.setWidth_eq r)
  unfold evaluated
  split
  · next h0 => rw [← h0, h]
  · next n hn => rw [show n + 1 = r.toNat from hn.symm, h]

/-- Feeding bytes is folding over them. -/
theorem feed_eq_foldl {w : Nat} (f : BitVec w → Byte → BitVec w) (bs : List Byte) :
    ∀ r, feed f r bs = bs.foldl f r := by
  induction bs with
  | nil => intro r; rfl
  | cons b bs ih => intro r; simp [feed, ih]

/-- The CRC-8 as a fold. -/
theorem crc8_eq (bs : List Byte) : crc8 bs = bs.foldl crc8Byte 0xFF := feed_eq_foldl _ _ _

/-- The CRC-16 as a fold. -/
theorem crc16_eq (bs : List Byte) : crc16 bs = bs.foldl crc16Byte 0xFFFF := feed_eq_foldl _ _ _

end Sys2Proof.Machine
end

