-- ==== Sys2Proof/Laws/Port.lean ====
section
/-! SUPPORT. When a local command acts (R168, R172), the byte a transaction clocks out (R169), and the command its bytes name. -/

namespace Sys2Proof.Machine

/-- In REJOIN or RUN a local command acts. -/
theorem localCommand_ready {body : State → State} {s : State} (h : Ready s) : localCommand body s = body s := by
  simp [localCommand, h.1, h.2]

/-- In SETTLE it is refused NOTREADY. -/
theorem localCommand_settle {body : State → State} {s : State} (h : ReadyInSettle s) :
    localCommand body s = reply .notReady [] s := by
  simp [localCommand, h.1, h.2]

/-- With no transaction whose command has still to take effect it is nothing. -/
theorem localCommand_unfit {body : State → State} {s : State} (h : canTake s = false) :
    localCommand body s = s := by
  simp [localCommand, h]

/-- Whatever the body leaves as it was, the command leaves as it was, where a reply does too. -/
theorem localCommand_keeps {α : Type} (f : State → α) (body : State → State) (s : State)
    (hreply : ∀ st d s, f (reply st d s) = f s) (hbody : f (body s) = f s) :
    f (localCommand body s) = f s := by
  unfold localCommand
  split
  · rfl
  · split
    · exact hreply _ _ _
    · exact hbody

/-- PROT as a command reads it does not change whether a command can act. -/
@[simp] theorem canTake_readProt (b : Bool) (s : State) : canTake (readProt b s) = canTake s := rfl

/-! ### SDO -/

/-- With no transaction nothing is clocked out. -/
theorem clockOut_none {held : Bool} {s : State} (ht : s.txn = none) : clockOut held s = s := by
  simp [clockOut, ht]

/-- Before the command takes effect a byte of it comes in while 0x00 goes out (R168). -/
theorem clockOut_untaken {held : Bool} {s : State} {t : Transaction} (ht : s.txn = some t) (h : t.taken = false) :
    clockOut held s = { s with sdo := 0, txn := some { t with received := t.received + 1 } } := by
  simp [clockOut, ht, h]

/-- From then on it is a byte of the reply. -/
theorem clockOut_taken {held : Bool} {s : State} {t : Transaction} (ht : s.txn = some t) (h : t.taken = true) :
    clockOut held s = nextByteBegins (replyByteSent held t s) := by
  simp [clockOut, ht, h]

/-- Filler: nothing is ready, or nothing was when the byte began (R169). -/
theorem replyByteSent_filler {held : Bool} {s : State} {t : Transaction} (h : t.sending = none)
    (hf : t.ready = [] ∨ (t.fillerBegun = true ∧ held = false)) : replyByteSent held t s = { s with sdo := 0 } := by
  rcases hf with hr | hr
  · simp [replyByteSent, h, hr]
  · cases hp : t.ready <;> simp [replyByteSent, h, hr, hp]

/-- The marker of the next part ready. -/
theorem replyByteSent_marker {held : Bool} {s : State} {t : Transaction} {p : ReplyPart} {rest : List ReplyPart}
    (h : t.sending = none) (hr : t.ready = p :: rest) (hf : t.fillerBegun = false ∨ held = true) :
    replyByteSent held t s = partByteSent p 0 { t with ready := rest } s := by
  rcases hf with hf | hf <;> simp [replyByteSent, h, hr, hf]

/-- Within a part, its next byte. -/
theorem replyByteSent_sending {held : Bool} {s : State} {t : Transaction} {p : ReplyPart} {n : Nat}
    (h : t.sending = some (p, n)) : replyByteSent held t s = partByteSent p n t s := by
  simp [replyByteSent, h]

/-- A byte that begins no words of a part without a snapshot lets no part fall due (R177). -/
theorem partByteSent_plain {p : ReplyPart} {n : Nat} {t : Transaction} {s : State}
    (h : n ≠ 1 ∨ p.snapshot = true ∨ p.data = []) :
    partByteSent p n t s = { s with
      txn := some { t with
        sending := if n + 1 < p.length then some (p, n + 1) else none, statusSent := t.statusSent || n == 1 }
      sdo := partByte p (s.short && !t.statusSent) n
      short := s.short && !(n == 1 && (s.short && !t.statusSent)) } := by
  rcases h with h | h | h <;> simp [partByteSent, h]

/-- In RETAIN, or with SEL high, SDO is not driven (R160, R168). -/
theorem drivesSdo_false {s : State} (h : s.station = .retain ∨ s.selHigh = true) : drivesSdo s = false := by
  rcases h with h | h <;> simp [drivesSdo, h]

/-! ### The bytes of a command -/

/-- A byte that names no command is unknown, whatever follows it (R172). -/
theorem commandOf_unknown (prot : Bool) (code : Byte) (args : List Byte) (h : commandCodes.contains code = false) :
    commandOf prot (code :: args) = some (.unknownCommand code) := by
  have known : ∀ n, code.toNat = n → commandCodes.contains (BitVec.ofNat 8 n) = false := by
    intro n hn
    rw [← hn, BitVec.ofNat_toNat, BitVec.setWidth_eq]
    exact h
  unfold commandOf
  dsimp only
  split
  all_goals first
    | rfl
    | exact absurd (known _ (by assumption)) (by decide)

end Sys2Proof.Machine
end

