-- ==== Sys2Proof/Laws/Records.lean ====
section
/-! SUPPORT. What the ends of an operation leave in the outcome set, the accrued set, the latches, the result record and the fault records (R116, R139 to R142, R146, R147, R150). -/

namespace Sys2Proof.Machine

/-! ### Flags -/

/-- A flag added to a set is that flag's set joined to it. -/
theorem withFlag_or (f : Flag) (set : BitVec 16) : withFlag f set = set ||| withFlag f 0 := by
  simp [withFlag]

/-- A flag added in the frame of an upkeep operation: it goes on with the flag (R116, R146). -/
theorem addFlag_goesOn {s : State} {k : Kind} {i : SlotIx} {request : List Byte} (f : Flag)
    (ho : s.own = some ⟨.upkeep k i, request⟩) : UpkeepGoesOn s (addFlag f s) (withFlag f 0) := by
  refine ⟨?_, ?_, ?_, ?_, ?_, ?_⟩ <;> simp [addFlag, ho, withFlag]

/-! ### The end of an operation -/

/-- The outcome set at the end of an operation of an identity (R146). -/
theorem outcome_ended (o : OutcomeSet) (identity : Kind × Byte) :
    (if o.identity = some identity then { o with ended := true } else o) =
      ⟨o.flags, o.identity, o.ended || o.identity == some identity⟩ := by
  by_cases h : o.identity = some identity
  · simp [h]
  · have hb : (o.identity == some identity) = false := by simpa using h
    simp [h, hb]

/-- The end of an upkeep operation (R116, R147). -/
theorem endUpkeep_ended (s : State) : UpkeepEnded s (endUpkeep s) 0 := by
  cases hu : s.upkeep with
  | none => simp [UpkeepEnded, endUpkeep, hu]
  | some op => simp [UpkeepEnded, endUpkeep, hu, outcome_ended]

/-- The end of an entry's operation (R146, R147). -/
theorem endEntry_ended (e : Entry) (s : State) : EntryEnded s (endEntry e s) e 0 := by
  simp [EntryEnded, endEntry, outcome_ended]

/-! ### What a failed or completed entry leaves -/

/-- The followers of a failed write, and the queue without them (R150). -/
theorem takeFollowers_one (page : PageId) (q : List Entry) :
    takeFollowers page 1 q =
      (((q.filter (Entry.writesTo page)).take 1).map Entry.asHeld, q.eraseP (Entry.writesTo page)) := by
  induction q with
  | nil => rfl
  | cons e q ih =>
    cases hb : e.body with
    | write p o ws =>
      by_cases hp : p = page
      · simp [takeFollowers, hb, hp, Entry.writesTo, Entry.asHeld]
      · simp [takeFollowers, hb, hp, Entry.writesTo, ih]
    | read p o n => simp [takeFollowers, hb, Entry.writesTo, ih]
    | claim p m i => simp [takeFollowers, hb, Entry.writesTo, ih]
    | release p => simp [takeFollowers, hb, Entry.writesTo, ih]

/-- The two followers of a failed write, and the queue without them (R150). -/
theorem takeFollowers_two (page : PageId) (q : List Entry) :
    takeFollowers page 2 q = (followersIn page q, withoutFollowers page q) := by
  induction q with
  | nil => rfl
  | cons e q ih =>
    cases hb : e.body with
    | write p o ws =>
      by_cases hp : p = page
      · simp [takeFollowers, hb, hp, followersIn, withoutFollowers, Entry.writesTo, Entry.asHeld, takeFollowers_one]
      · simp [takeFollowers, hb, hp, followersIn, withoutFollowers, Entry.writesTo, ih]
    | read p o n => simp [takeFollowers, hb, followersIn, withoutFollowers, Entry.writesTo, ih]
    | claim p m i => simp [takeFollowers, hb, followersIn, withoutFollowers, Entry.writesTo, ih]
    | release p => simp [takeFollowers, hb, followersIn, withoutFollowers, Entry.writesTo, ih]

/-- A WRITE leaves the queue into a fault record (R141, R150). -/
theorem headEnds_write {s : State} {e : Entry} (rest : List Entry) (code : Code) (holder : Option StationNo)
    (status : Option Bool) (words : List Word) (hw : e.isWrite = true) :
    WriteFailed s (headEnds e rest code holder status words s) e rest code 0 ∧
      EntryEnded s (headEnds e rest code holder status words s) e 0 := by
  cases hb : e.body with
  | write p o ws =>
    simp [headEnds, hb, formRecord, takeFollowers_two, pushFault, WriteFailed, EntryEnded, endEntry, outcome_ended,
      State.setLatch, Latch.mask, Latch.pos, Entry.asHeld, EntryBody.page]
  | read p o n => simp [Entry.isWrite, hb, EntryBody.kind] at hw
  | claim p m i => simp [Entry.isWrite, hb, EntryBody.kind] at hw
  | release p => simp [Entry.isWrite, hb, EntryBody.kind] at hw

/-- An entry that gives up its CLAIMING slot (R5). -/
theorem freeClaim_freed (e : Entry) (s : State) : ClaimSlotFreed s (freeClaim e s) e := by
  unfold freeClaim
  constructor
  · intro i page hb hs
    simp [hb, hs]
  · intro i h
    split
    · next page j hb =>
      split
      · next hj =>
        rw [slot_setSlot]
        split
        · next hij =>
          subst hij
          rcases h with h | h
          · exact absurd hb (h page)
          · exact absurd hj h
        · rfl
      · rfl
    · rfl

/-- Giving up the CLAIMING slot changes nothing that a change of a slot leaves. -/
theorem freeClaim_keeps {α : Type} (f : State → α) (hf : ∀ i r u, f (State.setSlot u i r) = f u) (e : Entry)
    (s : State) : f (freeClaim e s) = f s := by
  unfold freeClaim
  split
  · split
    · exact hf _ _ _
    · rfl
  · rfl

/-- An entry other than a WRITE leaves the queue into the result record (R140, R142), giving up its CLAIMING slot but where it is
granted (R5). -/
theorem headEnds_other {s : State} {e : Entry} (rest : List Entry) (code : Code) (holder : Option StationNo)
    (status : Option Bool) (words : List Word) (hw : e.isWrite = false) :
    ResultFilled s (headEnds e rest code holder status words s) e rest code holder status words 0 ∧
      EntryEnded s (headEnds e rest code holder status words s) e 0 ∧
      (code ≠ .granted → ClaimSlotFreed s (headEnds e rest code holder status words s) e) := by
  let v := endEntry e { s with queue := rest }
  let u := if code = .granted then v else freeClaim e v
  have hu : headEnds e rest code holder status words s = fillResult e code holder status words u := by
    cases hb : e.body with
    | write p o ws => simp [Entry.isWrite, hb, EntryBody.kind] at hw
    | read p o n => simp [headEnds, hb, u, v]
    | claim p m i => simp [headEnds, hb, u, v]
    | release p => simp [headEnds, hb, u, v]
  have keeps : ∀ {α : Type} (f : State → α), (∀ i r u, f (State.setSlot u i r) = f u) → f u = f v := by
    intro α f hf
    show f (if code = .granted then v else freeClaim e v) = f v
    split
    · rfl
    · exact freeClaim_keeps f hf e v
  have hend := endEntry_ended e { s with queue := rest }
  have hslots : ∀ i, v.slot i = s.slot i := fun i => slot_congr (by simp [v]) i
  rw [hu]
  refine ⟨⟨?_, ?_, ?_, rfl⟩, ⟨?_, ?_⟩, fun hc => ?_⟩
  · exact keeps (·.queue) fun _ _ _ => rfl
  · exact keeps (·.faults) fun _ _ _ => rfl
  · show u.latches ||| Latch.done.mask = _
    rw [keeps (·.latches) fun _ _ _ => rfl]
    simp [v, endEntry, Latch.mask, Latch.pos]
  · exact (keeps (·.outcome) fun _ _ _ => rfl).trans hend.1
  · exact (keeps (·.accrued) fun _ _ _ => rfl).trans hend.2
  · have hf := freeClaim_freed e v
    have hv : u = freeClaim e v := if_neg hc
    constructor
    · intro i page hb hs
      show u.slot i = _
      rw [hv]
      exact hf.1 i page hb ((hslots i).symm ▸ hs)
    · intro i h
      show u.slot i = _
      rw [hv, hf.2 i (by rw [hslots i]; exact h), hslots i]

/-! ### Tries -/

/-- A counted attempt of the head in flight (R139, R140, R141). -/
theorem countAttempt_counted {s : State} {e : Entry} {rest : List Entry} (h : HeadInFlight s e rest) (cause : Code) :
    AttemptCounted s (countAttempt cause s) e rest 0 cause 0 := by
  rw [countAttempt_head h]
  refine ⟨fun ha => ?_, fun ha => ?_⟩
  · rcases ha with ha | ha <;> simp [ha]
  · rw [if_neg (by simp [ha]), if_neg (by simp [ha])]
    by_cases hw : e.isWrite = true
    · have := headEnds_write (s := s) (e := { e with attempts := 3, inFlight := false }) rest cause none none [] hw
      exact ⟨this.2, fun hn => by simp [hw] at hn, fun _ => this.1⟩
    · have hw' : e.isWrite = false := by simpa using hw
      have := headEnds_other (s := s) (e := { e with attempts := 3, inFlight := false }) rest cause none none [] hw'
      exact ⟨this.2.1, fun _ => this.1, fun hn => absurd hn hw⟩

/-- A failed recovery frame leaves its operation going on, or ended with the third attempt (R16, R116). -/
theorem failRecovery_tried (i : SlotIx) (s : State) : UpkeepTried s (failRecovery i s) (s.slot i) 0 := by
  unfold failRecovery
  refine ⟨fun h => ?_, fun h0 h1 => ?_⟩
  · rcases h with h | h <;> simp [h, UpkeepGoesOn]
  · rw [if_neg h0, if_neg h1]
    exact endUpkeep_ended _

/-- A RESYNC without a holder ends its operation (R125). -/
theorem spendRecovery_ended (i : SlotIx) (s : State) : UpkeepEnded s (spendRecovery i s) 0 := endUpkeep_ended _

/-! ### A WRITE that breaks off -/

/-- An originator that goes by its own decision knows of the application once its access has begun (R84, R90). -/
theorem knowsApplied_own {r : FrameRecord} (s : State) (h : r.decidesItself = true) :
    knowsApplied r s = (r.answeredApplied && frameNotWaiting s && r.answerCheck != some false) := by
  simp [knowsApplied, h]

/-- Any other goes by the status byte it has read (R33, R90). -/
theorem knowsApplied_read {r : FrameRecord} (s : State) (h : r.decidesItself = false) :
    knowsApplied r s = (r.readApplied && r.answerCheck != some false) := by
  simp [knowsApplied, h]

end Sys2Proof.Machine
end

