-- ==== Sys2Proof/Tests/Slice0.lean ====
section
/-! SUPPORT. The model's own tests: ill-formed commands, the spec's worked examples, and for each statement a state that meets its hypotheses. -/

namespace Sys2Proof.Tests

open Sys2Proof Sys2Proof.Machine

set_option Elab.async false

/-! ### Small states -/

/-- A station of a number, in RUN, with some slots, MH and MS strapped. -/
def station (n : StationNo) (slots : List (SlotIx × Slot)) : State :=
  { State.reset with
    station := .run, straps := ⟨n, 0, true, true⟩, mark := true, vddGood := true, view := .quiet, gap := 24,
    slots := slots.foldl (fun v p => v.set p.1 p.2) State.reset.slots }

/-- A slot with a state, a page, a partner and a version, its words 0. -/
def copy (st : SlotState) (page : PageId) (partner : Option StationNo) (v : Version) : Slot :=
  { Slot.freed with state := st, page := some page, partner := partner, version := v, check := pageCheck v zeroPage }

/-- The station with a transaction whose command is about to take effect. -/
def asked (s : State) : State := { s with txn := some Transaction.begun, selHigh := false }

/-- A frame record of a kind at a point. -/
def frameAt (k : Kind) (pt : Point) (part : Part) : FrameRecord :=
  { FrameRecord.begun part with point := pt, kindCode := some k.code }

/-- The station with a frame in progress. -/
def inFrame (r : FrameRecord) (s : State) : State := { s with view := .inFrame false, frame := some r }

/-- The station with a frame in progress of its own. -/
def ownFrame (op : OpRef) (r : FrameRecord) (s : State) : State := { inFrame r s with own := some ⟨op, []⟩ }

/-- An entry in flight. -/
def flying (body : EntryBody) : Entry := ⟨7, body, 0, 0, true⟩

/-- The station with a queue. -/
def queued (q : List Entry) (s : State) : State := { s with queue := q }

/-- The state a command leaves. -/
def after (c : Instr) (s : State) : State :=
  match exec c s with
  | .next t => t
  | _ => s

/-- The state a list of commands leaves. -/
def run (cs : List Instr) (s : State) : State := cs.foldl (fun s c => after c s) s

/-! ### Well-formedness: an ill-formed command for each check -/

theorem test_wellFormed_areas : Instr.wellFormed (.supplyFall .vddFell 65) = false := by decide
theorem test_wellFormed_second_opening : Instr.wellFormed (.readFrame [.opening, .low, .opening]) = false := by decide
theorem test_wellFormed_after_closing : Instr.wellFormed (.claimFrame false [.closing, .low]) = false := by decide
theorem test_wellFormed_words : Instr.wellFormed (.write 1 0 1 [0x0102]) = false := by decide
theorem test_wellFormed_pulses :
    Instr.wellFormed (.busClearEnd ⟨false, List.replicate 17 ⟨true, false⟩, true, true⟩) = false := by decide
theorem test_wellFormed_known_code : Instr.wellFormed (.unknownCommand 0x10) = false := by decide
theorem test_wellFormed_good : Instr.wellFormed (.write 1 0 1 [0x0102, 0x0304]) = true := by decide

/-- No word spells a command (the table gives no bits). -/
theorem test_decodeTableWord : decodeTableWord 8 0x10 = none := rfl

/-! ### Checks and contests -/

/-- R183 and R184 on known bytes. -/
theorem test_checks : crc8 [] = 0xFF ∧ crc8 [0xFF] = 0x00 ∧
    crc16 [0x31, 0x32, 0x33, 0x34, 0x35, 0x36, 0x37, 0x38, 0x39] = 0x29B1 := by decide +kernel

/-- An opener of a number, at its header. -/
def atHeader (n : StationNo) : State :=
  { queued [flying (.write 3 0 [1])] (inFrame (FrameRecord.begun .opener) (station n [])) with
    own := some ⟨.entry, [0x6#4 ++ n, 3]⟩ }

/-- 2.10: header 0x6C against 0x69 loses at its sixth bit and goes on as a participant that reads 0x69; 0x69 against 0x6F
stands. -/
theorem test_arbitration :
    let lost := fun n => after (.writeFrame false (((byteBits 0x69).take n).map fun b => .bit (!b))) (atHeader 12)
    let part := fun n => (lost n).frame.map (·.part)
    let kept := after (.writeFrame false [.header 0xF]) (atHeader 9)
    part 5 = some .opener ∧ part 6 = some .participant ∧ (lost 6).own = none ∧
    (lost 6).queue.map (·.inFlight) = [false] ∧ (lost 8).frame.map (·.originator) = some 9 ∧
    kept.frame.map (·.part) = some .opener ∧ kept.frame.map (·.originator) = some 9 := by decide +kernel

/-- A bidder at the bid byte of an OFFER of station 4. -/
def bidding : State :=
  inFrame { frameAt .offer .bid .participant with page := some 88, originator := 4, holder := some 4 } (station 8 [])

/-- 4.6: the three bids; 0x08 stands against what 0x52 and 0x0D place until they lose to it, and loses to 0x07. -/
theorem test_bids :
    let t := fun b => after (.offerFrame false [.byte b]) bidding
    let reads := fun b => (t b).frame.map fun r => (r.bidByte, r.incoming.isSome)
    bidOf 10 2 = 0x52 ∧ bidOf 30 8 = 0x08 ∧ bidOf 30 13 = 0x0D ∧ reads 0x7F = some (0x08, true) ∧
    reads 0x0F = some (0x08, true) ∧ reads 0x07 = some (0x07, false) := by decide +kernel

/-- 11.2: the bytes of a transaction name a command once the last of its arguments is in; bytes after it change nothing. -/
theorem test_command_bytes :
    commandOf false [0x01] = some .identify ∧ commandOf true [0x10, 7, 9] = some (.claim 7 true) ∧
    commandOf false [0x20, 7, 3] = none ∧ commandOf false [0x20, 7, 3, 1, 0, 1, 0] = none ∧
    commandOf false [0x20, 7, 3, 1, 0, 1, 0, 2, 0xEE] = some (.write 7 3 1 [1, 2]) ∧
    commandOf false [0x20, 7, 3, 8] = some (.write 7 3 8 []) ∧
    commandOf false [0x02, 5] = some (.unknownCommand 0x02) ∧ commandOf false [] = none := by decide +kernel

/-! ### The spec's worked examples -/

/-- The request of 5.6: a WRITE of station 3 for page 20, offset 10, words 0x0102 and 0x0304. -/
def writeRequest : List Byte := requestBytes .write 3 20 (10 :: 1 :: wordsBytes [0x0102, 0x0304])

/-- A WRITE row up to its void bit, as another station sends it. -/
def writeOpening : List FrameEvent :=
  [.opening, .header 3] ++ writeRequest.tail.map .byte ++ [.bit false]

/-- The answer of 5.6: APPLIED with the mirrored flag and version 42. -/
def appliedAnswer : List Byte := withCheck (0x81 :: versionBytes 42)

/-- 5.6 at station 9: the mirror applies version 42 and drives ACK. -/
theorem test_mirror_applies :
    let t := after (.writeFrame false (writeOpening ++ [.bit true, .bit false, .byte 0x05]
      ++ appliedAnswer.map .byte ++ [.bit false, .bit false, .closing])) (station 9 [(7, copy .mirror 20 (some 5) 41)])
    (t.slot 7).state = .mirror ∧ (t.slot 7).version = 42 ∧ t.store.word 7 10 = 0x0102 ∧
      t.store.word 7 11 = 0x0304 ∧ t.latches = 0 ∧ Memory.wf t.store = true := by decide +kernel

/-- 5.6 at station 5: the holder applies version 42 at its status byte. -/
theorem test_holder_applies :
    let t := after (.writeFrame false (writeOpening ++ [.bit false, .bit false, .byte 0xFF, .byte 0xFF]))
      (station 5 [(2, copy .primary 20 (some 9) 41)])
    (t.slot 2).version = 42 ∧ t.store.word 2 11 = 0x0304 ∧ (t.frame.map (·.answer)) = some [0x81] := by
  decide +kernel

/-- 5.7 at station 9: with the primary absent the mirror is promoted at the fill bit, and holds. -/
theorem test_promotion :
    let t := after (.writeFrame false (writeOpening ++ [.bit false, .bit false, .byte 0xFF]))
      (station 9 [(7, copy .mirror 20 (some 5) 41)])
    (t.slot 7).state = .primary ∧ (t.slot 7).partner = none ∧ (t.slot 7).seekDue = true ∧
      t.latches = Latch.role.mask ∧ t.accrued = AccruedFlag.degraded.mask ∧
      (t.frame.map (·.holder)) = some (some 9) := by decide +kernel

/-- 5.8 at station 9: version 43 is not 41 + 1, so HOLD is driven and the slot becomes STALE. -/
theorem test_left_behind :
    let t := after (.writeFrame false (writeOpening ++ [.bit true, .bit false, .byte 0x05]
      ++ (withCheck (0x81 :: versionBytes 43)).map .byte ++ [.bit false, .bit false, .closing]))
      (station 9 [(7, copy .mirror 20 (some 5) 41)])
    (t.slot 7).state = .stale ∧ (t.slot 7).partner = some 5 ∧ (t.slot 7).version = 41 ∧
      (t.slot 7).recoveryDue = true ∧ t.latches = Latch.role.mask := by decide +kernel

/-- The queue of 9.9. -/
def faultQueue : List Entry :=
  [⟨40, .write 70 0 [1, 2], 0, 0, false⟩, ⟨41, .read 12 0 4, 0, 0, false⟩,
   ⟨42, .write 70 2 [1, 2, 3, 4, 5, 6, 7, 8], 0, 0, false⟩, ⟨43, .write 71 0 [1], 0, 0, false⟩,
   ⟨44, .write 70 10 [1], 0, 0, false⟩, ⟨45, .write 70 20 [1], 0, 0, false⟩]

/-- 9.9: entry 40 goes to the bus and finds no holder; entries 42 and 44 follow it into the record. -/
def failedWrite : State :=
  run [.frameOpportunity 24 false,
    .writeFrame false ([.opening, .header 0xF] ++ List.replicate 8 (.byte 0xFF) ++ [.bit false, .bit false, .bit false, .byte 0xFF, .closing])]
    (queued faultQueue (station 6 []))

/-- 9.9: the fault record, the queue left, LOSS, FAULT and the own-frame marker. -/
theorem test_no_holder : failedWrite.faults =
      [.writeFailed .noHolder ⟨40, 70, 0, [1, 2]⟩ [⟨42, 70, 2, [1, 2, 3, 4, 5, 6, 7, 8]⟩, ⟨44, 70, 10, [1]⟩]] ∧
    failedWrite.queue.map (·.tag) = [41, 43, 45] ∧ failedWrite.accrued = AccruedFlag.loss.mask ∧
    failedWrite.latches = Latch.fault.mask ∧ failedWrite.marker = true := by decide +kernel

/-- 9.9: the bad edit pushes a FORMAT record; after DISCARD the good one puts the three writes back in front. -/
theorem test_rewrite :
    let bad := after .rewrite { asked failedWrite with editPage := 72, editOffset := 127 }
    let good := after .rewrite { asked (after .discard (asked bad)) with editOffset := 100 }
    bad.faults.length = 2 ∧ bad.faults.head? = some (.format .first .offset 72 127) ∧
      good.faults = [] ∧ good.queue.map (·.tag) = [40, 42, 44, 41, 43, 45] := by decide +kernel

/-- 11.6: the stream read across a page boundary leaves the pointer at page 18, word 8, and its first part awaits slot 0. -/
theorem test_stream_read :
    let t := after (.streamRead 15) { asked (station 1 [(0, copy .primary 17 none 0), (5, copy .mirror 18 (some 2) 0)]) with
      pointerPage := 17, pointerWord := 120 }
    let u := after .storeAccessEnd t
    t.pointerPage = 18 ∧ t.pointerWord = 8 ∧
      (t.txn.map (·.awaiting)) = some (some ⟨17, 120, 8, true⟩) ∧
      (u.txn.map (·.awaiting)) = some (some ⟨18, 0, 8, true⟩) ∧
      (after .storeAccessEnd u).txn.map (fun x => x.ready.map (fun p => (p.status, p.data.length))) =
        some [(.ok, 16), (.ok, 16)] := by decide +kernel

/-! ### Witnesses: for each statement, states and operands that meet its hypotheses -/

/-- A station in RUN with one PRIMARY copy and a word in its store. -/
def serving : State := { station 2 [(7, copy .primary 20 (some 9) 41)] with store := [(1792, 5)] }

/-- A local command about to take effect in RUN. -/
def idle : State := asked serving

/-- The same in SETTLE. -/
def settling : State := { asked State.reset with station := .settle }

theorem witness_ready : Ready idle ∧ ReadyInSettle settling := by decide +kernel

theorem witness_step : ∃ t, step (serving.withPending [.seekTick]) = .next t ∧ t.pending = [] := ⟨_, rfl, rfl⟩

theorem witness_store : StoreOk serving ∧ serving.store ≠ [] := by
  constructor
  · show Memory.wf serving.store = true
    decide +kernel
  · decide +kernel

theorem witness_shapes : SlotsOk serving := by
  simp only [SlotsOk, Slot.shaped]; decide +kernel

theorem witness_pages : PagesOk serving := by
  have one : ∀ i : SlotIx, (serving.slot i).state ≠ .free → i = 7 := by decide +kernel
  refine ⟨fun i j _ hi hj _ _ => (one i hi).trans (one j hj).symm, ?_, ?_, ?_⟩
  · intro i h; exact absurd h (by simp [slotSetAside, serving, station, State.reset])
  · intro i h; exact absurd h (by simp [bidPage, serving, station, State.reset])
  · intro r h; exact absurd h (by simp [serving, station, State.reset])

theorem witness_queue : QueueOk failedWrite := by
  simp only [QueueOk]; decide +kernel

theorem witness_faults : FaultsOk failedWrite := by
  simp only [FaultsOk, FlightOk]; decide +kernel

theorem witness_station : StationOk serving ∧ ViewOk serving := by
  simp only [StationOk, ViewOk]; decide +kernel

theorem witness_due : DueOk (station 4 [(1, { copy .stale 8 (some 2) 3 with recoveryDue := true }),
    (2, { copy .doubt 9 none 3 with attempts := 3 })]) := by
  simp only [DueOk]; decide +kernel

theorem witness_pieces :
    let whole := writeOpening ++ [.bit true, .bit false, .byte 0x05]
    (after (frameRow .write false (whole.drop 5)) (after (frameRow .write false (whole.take 5)) serving)).frame
      = (after (frameRow .write false whole) serving).frame := by decide +kernel

theorem witness_pointer :
    let at127 := { idle with pointerWord := 127 }
    Ready at127 ∧ (0 : Byte).toNat ≤ 127 ∧ at127.pointerWord.toNat + 1 = 128 ∧
      (after (.streamRead 0) at127).pointerPage = 1 ∧ (after (.streamRead 0) at127).pointerWord = 0 ∧
      (after (.streamRead 1) at127).pointerWord = 1 ∧ (after (.streamRead 126) idle).pointerWord = 127 ∧
      (after (.blockRead 15) idle).pointerPage = 16 ∧ (after (.setPointer 9 127) idle).pointerWord = 127 := by
  decide +kernel

theorem witness_parts : StoreIdle idle ∧ idle.txn.isSome = true ∧ lookup idle 20 = some 7 ∧
    (idle.slot 7).state.serves = true ∧ lookup idle 21 = none := by decide +kernel

theorem witness_transactions :
    serving.station ≠ .retain ∧ serving.selHigh = true ∧ serving.txn = none ∧
      (after (.transactionEnd true) idle).short = true ∧ (after (.transactionEnd false) idle).short = false := by
  decide +kernel

/-- A transaction whose reply is the marker, a status and one byte of data. -/
def replying (sent : Option Nat) : State :=
  let part : ReplyPart := ⟨.ok, [0x77], false⟩
  { idle with
    short := true
    txn := some { Transaction.begun with
      taken := true, ready := if sent.isNone then [part] else [], sending := sent.map fun n => (part, n) } }

theorem witness_reply_bytes :
    (after .replyByteClockedOut (replying none)).sdo = 0x5A ∧
    (after .replyByteClockedOut (replying (some 1))).sdo = 0x81 ∧
    (after .replyByteClockedOut (replying (some 1))).short = false ∧
    (after .replyByteClockedOut (replying (some 2))).sdo = 0x77 ∧
    (after .replyByteClockedOut idle).sdo = 0 := by decide +kernel

theorem witness_claim :
    claimRefusal 30 idle = none ∧ claimRefusal 20 idle = some .heldHere ∧
    claimRefusal 30 (readProt true idle) = some .prot ∧
    claimRefusal 30 (queued (List.replicate 8 (flying (.write 1 0 [1]))) idle) = some .full ∧
    ((after (.claim 30 false) idle).slot 0).state = .claiming := by decide +kernel

theorem witness_adopt_release :
    adoptRefusal 8 (asked (station 4 [(1, copy .stale 8 (some 2) 3)])) = none ∧
    adoptRefusal 20 idle = some .notHeld ∧ releaseRefusal 20 idle = none ∧
    releaseRefusal 21 idle = some .notHeld := by decide +kernel

theorem witness_write :
    (after (.write 20 127 0 [9]) idle).queue = [⟨0, .write 20 127 [9], 0, 0, false⟩] ∧
    (after (.write 20 0 7 (List.replicate 8 1)) idle).queue.length = 1 ∧
    (after (.write 20 128 0 [9]) idle).queue = [] ∧ (after (.write 20 0 8 []) idle).queue = [] ∧
    (after (.write 20 0 0 [9]) (queued (List.replicate 8 (flying (.write 1 0 [1]))) idle)).queue.length = 8 := by
  decide +kernel

theorem witness_read :
    stateFor 20 idle = .primary ∧ stateFor 21 idle = .free ∧
    (after (.read 20 127 0) idle).txn.map (·.awaiting) = some (some ⟨20, 127, 1, false⟩) ∧
    (after (.read 20 127 1) idle).txn.map (·.ready) = some [⟨.range, [], false⟩] ∧
    (after (.read 21 127 15) idle).queue = [⟨0, .read 21 127 16, 0, 0, false⟩] ∧
    (after (.read 21 0 0) (queued [flying (.release 1)] idle)).txn.map (·.ready) = some [⟨.busy, [], false⟩] := by
  decide +kernel

theorem witness_result :
    let r : ResultRecord := ⟨7, .read, none, .ok, 21, none, some false, [0x0102]⟩
    Ready { idle with result := some r } ∧
    (after .takeResult { idle with result := some r }).txn.map (·.ready) =
      some [⟨.ok, [7, 7, 0, 7, 21, 0xFF, 1, 1, 1, 2], false⟩] := by decide +kernel

theorem witness_abandon :
    let s := queued [flying (.write 3 0 [1]), ⟨8, .claim 30 .new (some 4), 0, 0, false⟩]
      (asked (station 2 [(4, copy .claiming 30 none 0)]))
    (s.slot 4).state = .claiming ∧ (after .abandon s).slot 4 = Slot.freed ∧
      (after .abandon s).abandoned = some (flying (.write 3 0 [1])) ∧
      (after .abandon (queued [] idle)).abandoned = none := by decide +kernel

theorem witness_take_cause :
    let s := { idle with latches := 0b010101, enables := 0b001111, master := true }
    (s.latches &&& s.enables).getLsbD Latch.role.pos = true ∧
    (after .takeCause s).latches = 0b010001 ∧ (after .takeCause s).master = false ∧
    idle.latches &&& idle.enables = 0 := by decide +kernel

theorem witness_fault_commands :
    Ready (asked failedWrite) ∧ failedWrite.faults.length = 1 ∧
    (after .readFault (asked failedWrite)).txn.map (fun t => t.ready.map (·.data.take 4)) =
      some [[1, 1, 0x0A, 2]] ∧
    (after .resume (asked failedWrite)).queue.length = 6 ∧
    (after .resume (queued (List.replicate 6 (flying (.write 1 0 [1]))) (asked failedWrite))).faults ≠ [] ∧
    (after .discard (asked failedWrite)).faults = [] := by decide +kernel

theorem witness_rewrite :
    let list := fun o : Byte => [FaultRecord.writeFailed .prot ⟨1, 5, 0, [1]⟩ [⟨2, 5, o, [1, 2]⟩, ⟨3, 5, 127, [1, 2]⟩]]
    let top := fun o : Byte => (after .rewrite { idle with editOffset := 127, faults := list o }).faults.head?
    top 127 = some (.format .follower1 .range 0 127) ∧ top 126 = some (.format .follower2 .range 0 127) := by
  decide +kernel

theorem witness_supply :
    (after (.supplyFall .rstLow 0) serving).store = serving.store ∧
    let low := after (.supplyFall .rstLow 0) serving
    low.station = .retain ∧ low.mark = true ∧ (low.vddGood || false) = true ∧
    (after (.start ⟨2, 1, true, false⟩ true false) low).slot 7 =
      { serving.slot 7 with state := .doubt, recoveryDue := true } ∧
    State.reset.station = .retain ∧ (State.reset.mark && (State.reset.vddGood || true)) = false := by decide +kernel

theorem witness_cold_start :
    let s := after (.start ⟨2, 1, true, false⟩ true true) State.reset
    s.station = .settle ∧ s.clearing = true ∧ (after .storeClearingEnd s).clearing = false ∧
    (after .settleEnd (after .storeClearingEnd s)).station = .run := by decide +kernel

/-- A CLAIM entry whose frame is at its void bit, at its originator. -/
def claiming : State :=
  queued [flying (.claim 30 .new (some 4))]
    (ownFrame .entry (frameAt .claim .void .originator) (station 2 [(4, copy .claiming 30 none 0)]))

theorem witness_stuck :
    serving.onBus = true ∧ serving.view = .quiet ∧ serving.frame = none ∧
    HeadInFlight claiming (flying (.claim 30 .new (some 4))) [] ∧
    (after .stuckBus claiming).marker = true ∧ (after .stuckBus claiming).view = .stuck ∧
    (after .waitingQuietReached { serving with view := .waiting }).view = .quiet ∧
    (after .stuckReleased { serving with view := .stuck }).view = .quiet := by decide +kernel

theorem witness_originates : ∃ r, claiming.frame = some r ∧ Originates claiming r .entry ∧ r.incoming = none ∧
    r.kindCode = some Kind.claim.code ∧ r.voidRead = false ∧ r.answerCheck = none ∧ r.closed = false :=
  ⟨_, rfl, ⟨rfl, _, rfl⟩, rfl, rfl, rfl, rfl, rfl⟩

theorem witness_break_off :
    let s := inFrame (frameAt .read .page .participant) serving
    (after (.breakOff (.clockHigh 9)) s).gap = 9 ∧ (after (.breakOff .dataFall) s).view = .quiet ∧
    ((after (.breakOff .dataFall) claiming).queue.map (·.attempts)) = [1] := by decide +kernel

theorem witness_bus_clear :
    let s := inFrame { frameAt .read .page .onlooker with low := true } idle
    Ready s ∧ drivesLine s = false ∧ drivesLine (asked claiming) = true ∧ (after .busClear s).view = .clearing ∧
    (after (.busClearEnd ⟨false, [⟨true, true⟩], true, true⟩) (after .busClear s)).view = .quiet ∧
    (after (.busClearEnd ⟨false, List.replicate 16 ⟨true, false⟩, true, true⟩) (after .busClear s)).txn.map (·.ready) =
      some [⟨.stillStuck, [], false⟩] := by decide +kernel

theorem witness_scheduler :
    let due := fun st => { copy st 8 (some 2) 3 with recoveryDue := true }
    let opens := fun (s : State) => (after (.frameOpportunity 12 false) s).own.map (·.op)
    opens (station 4 [(1, due .doubt), (0, due .stale)]) = some (.upkeep .verify 1) ∧
    opens (station 4 [(1, due .stale)]) = some (.upkeep .resync 1) ∧
    opens (station 4 [(1, { due .primary with damaged := true })]) = some (.upkeep .repair 1) ∧
    opens (queued faultQueue (station 4 [(1, { copy .primary 8 none 3 with seekDue := true })])) = some .entry ∧
    opens (station 4 [(1, { copy .primary 8 none 3 with seekDue := true })]) = some (.upkeep .offer 1) ∧
    opens serving = none ∧ opens { serving with gap := 12, marker := true } = none := by decide +kernel

theorem witness_hand_atEnd :
    let result := fun b (prot : Bool) =>
      (after (.frameOpportunity 12 prot) (queued [⟨7, b, 0, 0, false⟩] serving)).result.map (·.outcome)
    result (.claim 30 .new none) true = some .prot ∧ result (.claim 20 .adopt none) false = some .notHeld ∧
    result (.release 21) false = some .notHeld ∧ result (.read 20 127 2) false = some .range ∧
    (∀ i, Slot.dueOffer (serving.slot i) = false ∧ Slot.dueRepair (serving.slot i) = false) ∧
    anyDoubt serving = false := by decide +kernel

theorem witness_scrub :
    (serving.slot 7).state = .primary ∧ scrubStep serving = .none ∧ StoreIdle serving ∧
    (7 : SlotIx) = serving.scrubPtr + BitVec.toFin (BitVec.ofNat 6 7) ∧ (after .scrubTick serving).scrubPtr = 8 ∧
    scrubStep (after .scrubTick serving) = .inProgress 7 := by decide +kernel

/-- A check step on slot 7 under way, that slot a given one. -/
def checking (d : Slot) : State :=
  let s := station 2 [(7, d)]
  { s with arbiter := { Arbiter.idle with inProgress := some ⟨.scrub, 7, .checkStep, d.page, d.damaged, true⟩ } }

theorem witness_check_step :
    let bad := fun st p => { copy st 20 p 41 with check := 0 }
    let found := fun d => let t := after .storeAccessEnd (checking d)
      ((t.slot 7).state, (t.slot 7).damaged, (t.slot 7).recoveryDue, t.latches)
    found (bad .mirror (some 9)) = (.stale, false, true, Latch.damage.mask) ∧
    found (bad .primary none) = (.primary, true, false, Latch.damage.mask) ∧
    found (bad .primary (some 9)) = (.primary, true, true, Latch.damage.mask) ∧
    found (copy .mirror 20 (some 9) 41) = (.mirror, false, false, 0) := by decide +kernel

theorem witness_access_end :
    let s := { serving with arbiter :=
      ⟨some ⟨.port, 7, .snapshot, some 20, false, false⟩, none, none, some ⟨7, .snapshot⟩, some ⟨7, .checkStep⟩⟩ }
    scrubStep s = .waiting 7 ∧
    (after .storeAccessEnd s).arbiter.inProgress.map (·.claimant) = some .port ∧
    (after .storeAccessEnd (after .storeAccessEnd s)).arbiter.inProgress.map (·.claimant) = some .scrub := by
  decide +kernel

theorem witness_seek :
    let s := station 4 [(1, { copy .stale 8 (some 2) 3 with attempts := 3 }), (2, copy .primary 9 none 3),
      (3, { copy .primary 10 (some 2) 3 with damaged := true })]
    let t := after .seekTick s
    s.onBus = true ∧ (t.slot 1).recoveryDue = true ∧ (t.slot 2).seekDue = true ∧ (t.slot 3).recoveryDue = true := by
  decide +kernel

theorem witness_arbitration :
    let s := { (queued [flying (.write 3 0 [1])] (inFrame (FrameRecord.begun .opener) (station 12 []))) with
      own := some ⟨.entry, [0x6C, 3]⟩ }
    let t := after (.writeFrame false [.header 9]) s
    HeadInFlight s (flying (.write 3 0 [1])) [] ∧ (0x6C : Byte) = Kind.write.code ++ s.straps.number ∧ t.own = none ∧
      t.frame.map (·.originator) = some 9 ∧ t.queue.map (·.inFlight) = [false] := by decide +kernel

theorem witness_void :
    let s := inFrame (frameAt .read .void .participant) serving
    StandsAt s (frameAt .read .void .participant) .read .void ∧ s.arbiter.busyFor .frame = false ∧
    (after (.readFrame [.bit false]) s).frame.map (·.voidRead) = some true ∧
    (after (.readFrame [.bit false, .closing]) s).frame = none := by decide +kernel

theorem witness_fill :
    let r := { frameAt .claim .fill .participant with slot := some 7 }
    let s := inFrame r (station 9 [(7, copy .mirror 20 (some 5) 41)])
    StandsAt s r .claim .fill ∧ (s.slot 7).state = .mirror ∧
    ((after (.claimFrame false [.bit false]) s).slot 7).state = .primary := by decide +kernel

theorem witness_holder :
    let r := { frameAt .read .holder .participant with slot := some 7, roleDrive := .presence }
    let s := inFrame r serving
    StandsAt s r .read .holder ∧ (1 : StationNo) < s.straps.number ∧
    ((after (.readFrame [.byte 0x01]) s).slot 7).state = .stale ∧
    ((after (.readFrame [.byte 0xFF]) s).slot 7).state = .primary := by decide +kernel

/-- The originator of a VERIFY for slot 3 at its closing. -/
def verifying (r : FrameRecord) : State :=
  ownFrame (.upkeep .verify 3) r { station 4 [(3, copy .doubt 9 (some 6) 8)] with station := .rejoin }

theorem witness_verify :
    let atEnd := frameAt .verify .over .originator
    let r := fun h p f v => { atEnd with holder := h, presence := p, fill := f, answerCheck := some true, answer := versionBytes v }
    let ends := fun r => ((after (.verifyFrame [.closing]) (verifying r)).slot 3).state
    StandsAt (verifying atEnd) atEnd .verify .over ∧ (verifying atEnd).arbiter.busyFor .frame = false ∧
    ends (r (some 2) true false 1) = .stale ∧ ends (r (some 6) false true 8) = .primary ∧
    ends (r (some 6) false true 9) = .stale ∧ ends atEnd = .primary ∧
    ends { atEnd with holder := some 2, answerCheck := some false } = .doubt ∧
    ends { atEnd with presence := true } = .doubt ∧
    (after (.verifyFrame [.closing]) (verifying atEnd)).station = .run := by decide +kernel

theorem witness_upkeep_originates : Originates (verifying (frameAt .verify .over .originator))
    (frameAt .verify .over .originator) (.upkeep .verify 3) := ⟨rfl, _, rfl⟩

theorem witness_verify_mirror :
    let r := fun v => { frameAt .verify .over .participant with
      slot := some 3, roleDrive := .fill, contest := .won, request := [0, 0] ++ versionBytes v }
    let s := fun v => inFrame (r v) (station 6 [(3, copy .mirror 9 (some 4) 8)])
    let ends := fun v => ((after (.verifyFrame [.closing]) (s v)).slot 3).state
    StandsAt (s 7) (r 7) .verify .over ∧ ends 7 = .primary ∧ ends 8 = .mirror ∧ ends 9 = .stale := by decide +kernel

theorem witness_resync_accept :
    let r := { frameAt .resync .accept .participant with slot := some 7, contest := .won, originator := 9 }
    let s := fun p => inFrame r (station 2 [(7, copy .primary 20 p 41)])
    let t := fun p => after (.resyncFrame false [.bit false]) (s p)
    StandsAt (s none) r .resync .accept ∧ ((t none).slot 7).partner = some 9 ∧
    ((t (some 9)).slot 7).partner = some 9 ∧ ((t (some 5)).slot 7).partner = some 5 := by decide +kernel

/-- The originator of an upkeep frame for slot 3 at its closing. -/
def mending (k : Kind) (d : Slot) (r : FrameRecord) : State :=
  ownFrame (.upkeep k 3) r (station 4 [(3, d)])

/-- The stream of a page at version 8 whose words are 0. -/
def emptyStream : List Byte := versionBytes 8 ++ wordsBytes zeroPage ++ wordBytes (pageCheck 8 zeroPage)

theorem witness_resync :
    let atEnd := frameAt .resync .over .originator
    let good := { atEnd with holder := some 2, choice := true, answerCheck := some true, answer := emptyStream }
    let d := { copy .stale 9 (some 2) 7 with recoveryDue := true }
    let ends := fun prot r => let t := (after (.resyncFrame prot [.closing]) (mending .resync d r)).slot 3
      (t.state, t.version, t.attempts)
    StoreIdle (mending .resync d atEnd) ∧
    ends false good = (.mirror, 8, 0) ∧ ends true good = (.stale, 7, 1) ∧
    ends false { good with answerCheck := none } = (.stale, 7, 1) ∧ ends false { good with choice := false } = (.free, 0, 0) ∧
    ends false atEnd = (.stale, 7, 3) ∧ ends false { atEnd with fill := true } = (.stale, 7, 1) := by decide +kernel

theorem witness_repair :
    let atEnd := frameAt .repair .over .originator
    let good := { atEnd with
      choice := true, answerCheck := some true, answer := emptyStream, request := [0, 0] ++ versionBytes 8 }
    let d := { copy .primary 9 (some 2) 8 with damaged := true, recoveryDue := true }
    let ends := fun prot r => let t := (after (.repairFrame prot [.closing]) (mending .repair d r)).slot 3
      (t.damaged, t.attempts)
    StoreIdle (mending .repair d atEnd) ∧ atEnd.contest ≠ .lost ∧
    ends false good = (false, 0) ∧ ends true good = (true, 1) ∧ ends false atEnd = (true, 1) := by decide +kernel

/-- A CLAIM at its closing at its originator: for a new page in slot 4, or the adoption of the STALE page in slot 5. -/
def judging (m : ClaimMode) (r : FrameRecord) : State :=
  queued [flying (.claim (if m = .new then 30 else 31) m (if m = .new then some 4 else none))]
    (ownFrame .entry { r with slot := some 5, request := [0, 0, m.code] }
      (station 2 [(4, copy .claiming 30 none 0), (5, copy .stale 31 (some 3) 6)]))

theorem witness_claim_frame :
    let atEnd := frameAt .claim .over .originator
    let ends := fun m prot r i => let t := after (.claimFrame prot [.closing]) (judging m r)
      ((t.slot i).state, t.result.map (·.outcome))
    StoreIdle (judging .new atEnd) ∧ ends .new false atEnd 4 = (.primary, some .granted) ∧
    ends .new true atEnd 4 = (.free, some .prot) ∧ ends .adopt false atEnd 5 = (.primary, some .granted) ∧
    ends .new false { atEnd with presence := true } 4 = (.free, some .held) := by decide +kernel

theorem witness_release_frame :
    let atEnd := frameAt .release .over .originator
    let s := fun (mode : Byte) h (d : Slot) => queued [flying (.release 20)] (ownFrame .entry
      { atEnd with slot := some 7, originator := 2, holder := h, request := [0, 20, mode] } (station 2 [(7, d)]))
    let ends := fun mode h d => let t := after (.releaseFrame [.closing]) (s mode h d)
      ((t.slot 7).state, t.result.map (·.outcome))
    HeadInFlight (s 1 none (copy .primary 20 (some 9) 41)) (flying (.release 20)) [] ∧
    ends 1 (some 2) (copy .primary 20 (some 9) 41) = (.free, some .released) ∧
    ends 2 none (copy .mirror 20 (some 9) 41) = (.free, some .left) ∧
    ends 1 (some 1) (copy .primary 20 (some 9) 41) = (.primary, none) := by decide +kernel

theorem witness_release_others :
    let r := fun (mode : Byte) => { frameAt .release .over .participant with
      slot := some 7, originator := 2, choiceDriven := true, request := [0, 20, mode] }
    let ends := fun mode d => (after (.releaseFrame [.closing]) (inFrame (r mode) (station 9 [(7, d)]))).slot 7
    (ends 1 (copy .mirror 20 (some 2) 41)).state = .free ∧
    (ends 2 (copy .primary 20 (some 2) 41)).partner = none := by decide +kernel

theorem witness_bid :
    let t := after (.offerFrame false [.byte 0xFF]) bidding
    (bidding.frame.map fun r => eligible r (readProt false bidding)) = some true ∧ (t.slot 0).state = .incoming ∧
      t.frame.map (·.bidByte) = some 0x08 := by decide +kernel

theorem witness_offer :
    let atEnd := { frameAt .offer .over .originator with originator := 4, holder := some 4 }
    let d := { copy .primary 9 none 8 with seekDue := true }
    let ends := fun r => let t := (after (.offerFrame false [.closing]) (mending .offer d r)).slot 3
      (t.partner, t.seekDue)
    let won := fun load => { frameAt .offer .over .participant with originator := 4, incoming := some 3, load := load }
    let wins := fun load => ((after (.offerFrame false [.closing])
      (inFrame (won load) (station 8 [(3, copy .incoming 9 (some 4) 8)]))).slot 3).state
    ends { atEnd with bidByte := 0x08, ack := true } = (some 8, false) ∧ ends { atEnd with bidByte := 0x08 } = (none, false) ∧
    ends atEnd = (none, false) ∧ wins .requested = .mirror ∧ wins .none = .free := by decide +kernel

theorem witness_write_holder :
    let r := fun o => { frameAt .write .answer .participant with
      slot := some 7, contest := .won, request := [0x63, 20, o, 1, 1, 2, 3, 4] }
    let t := fun o prot v => after (.writeFrame prot [.low])
      (inFrame (r o) (station 5 [(7, copy .primary 20 (some 9) v)]))
    let status := fun o prot v => (t o prot v).frame.map (·.status)
    status 126 false 41 = some (some 0x81) ∧ ((t 126 false 41).slot 7).version = 42 ∧
    status 127 false 41 = some (some 0x84) ∧ status 126 true 41 = some (some 0x82) ∧
    status 126 false 0xFFFFFFFF = some (some 0x83) ∧ status 126 false 0xFFFFFFFE = some (some 0x81) := by decide +kernel

theorem witness_mirror_ack :
    let r := { frameAt .write .ack .participant with
      slot := some 7, holder := some 5, answerCheck := some true, answer := 0x81 :: versionBytes 42,
      request := [0x63, 20, 126, 1, 1, 2, 3, 4] }
    let s := inFrame r (station 9 [(7, copy .mirror 20 (some 5) 41)])
    StandsAt s r .write .ack ∧ r.readApplied = true ∧ r.announced = 41 + 1 ∧ StoreIdle s ∧
    (after (.writeFrame false [.bit false]) s).frame.map (·.ack) = some true := by decide +kernel

theorem witness_write_closing :
    let r := { frameAt .write .over .participant with slot := some 7, holder := some 5, answer := [0x81] }
    let ends := fun r d => (after (.writeFrame false [.closing]) (inFrame r (station 9 [(7, d)]))).slot 7
    r.readApplied = true ∧
    (ends { r with holdDriven := true } (copy .mirror 20 (some 5) 41)).state = .stale ∧
    (ends r (copy .mirror 20 (some 5) 41)).state = .mirror ∧
    (ends r (copy .mirror 20 (some 6) 41)).partner = some 5 ∧
    (ends { r with contest := .won, status := some 0x81 } (copy .primary 20 (some 6) 41)).partner = none ∧
    (ends { r with contest := .won, status := some 0x83 } (copy .primary 20 (some 6) 41)).partner = some 6 ∧
    (ends { r with contest := .won, status := some 0x81, hold := true } (copy .primary 20 (some 6) 41)).partner = some 6 ∧
    (ends { r with answer := [0x82], holdDriven := true } (copy .mirror 20 (some 5) 41)).state = .mirror := by decide +kernel

/-- The originator of a WRITE or a READ at its closing. -/
def ending (k : Kind) (body : EntryBody) (attempts : Fin 4) (r : FrameRecord) : State :=
  queued [{ flying body with attempts := attempts }, ⟨8, .write 20 3 [5], 0, 0, false⟩]
    (ownFrame .entry { r with kindCode := some k.code } (station 2 []))

theorem witness_write_outcome :
    let atEnd := frameAt .write .over .originator
    let good := fun b => { atEnd with holder := some 5, answer := [b], answerCheck := some true }
    let ends := fun n r => let t := after (.writeFrame false [.closing]) (ending .write (.write 20 0 [1]) n r)
      (t.queue.map (·.tag), t.faults.length)
    ends 0 { atEnd with voidRead := true } = ([7, 8], 0) ∧ ends 0 atEnd = ([], 1) ∧ ends 0 (good 0x81) = ([8], 0) ∧
    ends 0 (good 2) = ([], 1) ∧ ends 0 (good 3) = ([], 1) ∧ ends 0 (good 4) = ([], 1) ∧
    ends 0 { good 1 with answerCheck := some false } = ([7, 8], 0) ∧
    ends 2 { good 1 with answerCheck := some false } = ([], 1) := by decide +kernel

theorem witness_read_holder :
    let r := fun o => { frameAt .read .answer .participant with slot := some 7, contest := .won, request := [0x73, 20, o, 1] }
    let t := fun o => after (.readFrame [.low]) (inFrame (r o) serving)
    StandsAt (inFrame (r 127) serving) (r 127) .read .answer ∧
    (t 127).frame.map (·.toSend) = some [0x04, crc8 [0x04]] ∧ (t 126).arbiter.busyFor .frame = true := by decide +kernel

theorem witness_read_outcome :
    let atEnd := { frameAt .read .over .originator with request := [0x72, 20, 0, 0] }
    let good := fun b => { atEnd with holder := some 5, answer := [b, 1, 2], answerCheck := some true }
    let ends := fun r => (after (.readFrame [.closing]) (ending .read (.read 20 0 1) 0 r)).result.map
      (fun x => (x.outcome, x.words))
    ends atEnd = some (.noHolder, []) ∧ ends (good 1) = some (.ok, [0x0102]) ∧ ends (good 2) = some (.damaged, [0x0102]) ∧
    ends (good 4) = some (.range, []) ∧ ends { good 1 with answerCheck := some false } = none := by decide +kernel

theorem witness_undefined_kind :
    let s := { inFrame (FrameRecord.begun .participant) serving with marker := true }
    let t := after (.undefinedKindFrame 1 [.header 3]) s
    t.frame.map (·.part) = some .onlooker ∧ t.marker = false ∧ t.frame.map (·.kindCode) = some (some 9) ∧
    (after (.undefinedKindFrame 1 [.closing]) t).frame = none := by decide +kernel

/-- A frame of the station's own, at its closing, meets together what the settlement statements ask. -/
theorem witness_settlements (d : Slot) (load : LoadDecision) :
    let r := fun k => { frameAt k .over .originator with load := load, originator := 4, holder := some 4 }
    let up := fun k => mending k d (r k)
    let entry := fun k body => ending k body 0 (r k)
    (∀ k, StandsAt (up k) (r k) k .over ∧ Originates (up k) (r k) (.upkeep k 3) ∧ StoreIdle (up k) ∧
      (up k).arbiter.busyFor .frame = false ∧ (r k).voidRead = false ∧ (r k).low = false ∧ (r k).contest ≠ .lost) ∧
    (∀ k body, StandsAt (entry k body) (r k) k .over ∧ Originates (entry k body) (r k) .entry ∧
      HeadInFlight (entry k body) (flying body) [⟨8, .write 20 3 [5], 0, 0, false⟩] ∧
      (entry k body).arbiter.busyFor .frame = false ∧ StoreIdle (entry k body) ∧ (r k).slot = none) := by
  refine ⟨fun k => ⟨⟨rfl, rfl, rfl, by simp [frameAt, FrameRecord.begun], rfl, rfl⟩, ⟨rfl, _, rfl⟩, rfl, rfl, rfl, rfl, ?_⟩,
    fun k body => ⟨⟨rfl, rfl, rfl, by simp [frameAt, FrameRecord.begun], rfl, rfl⟩, ⟨rfl, _, rfl⟩, ⟨rfl, rfl, rfl⟩, rfl, rfl, rfl⟩⟩
  simp [frameAt, FrameRecord.begun]

theorem witness_settle_refuses : refusedInSettle (.claim 1 false) = true ∧
    (after (.claim 1 false) settling).txn.map (·.ready) = some [⟨.notReady, [], false⟩] ∧
    canTake settling = true ∧ commandCodes.contains 0x02 = false ∧
    (after .identify settling).txn.map (·.ready) = some [⟨.ok, [0x64, 0x16, 0, 0, 1, 0], false⟩] := by decide +kernel

theorem witness_read_slot :
    (after (.readSlot 63) idle).txn.map (fun t => t.ready.map (·.status)) = some [.ok] ∧
    (after (.readSlot 64) idle).txn.map (fun t => t.ready.map (·.status)) = some [.invalid] ∧
    (slotImage (idle.slot 7)).take 8 = [2, 0xC0, 20, 9, 0, 0, 0, 41] := by decide +kernel

/-- A snapshot of slot 7 under way for a claimant. -/
def copying (c : Claimant) (s : State) : State :=
  { s with arbiter := { Arbiter.idle with inProgress := some ⟨c, 7, .snapshot, some 20, (s.slot 7).damaged, true⟩ } }

theorem witness_snapshots :
    let part := fun (page : PageId) => { idle with txn := some { Transaction.begun with taken := true, awaiting := some ⟨page, 1, 1, true⟩ } }
    let entry := fun (page : PageId) => queued [⟨7, .read page 0 1, 0, 0, false⟩] serving
    let port := fun page => (after .storeAccessEnd (copying .port (part page))).txn.map (·.ready)
    let served := fun page => let t := after .storeAccessEnd (copying .handover (entry page))
      (t.result.map (fun x => (x.outcome, x.words)), t.queue.length)
    port 20 = some [⟨.ok, [0, 0], true⟩] ∧ port 21 = some [⟨.notHeld, [0xFF, 0xFF], true⟩] ∧
    served 20 = (some (.ok, [0x0500]), 0) ∧ served 21 = (none, 1) := by decide +kernel

/-! ### The two moments of a closing, and the ends of frames -/

/-- R167: what the originator decides stands from PBD driven low on, whatever ends the frame; before that it is lost. -/
theorem test_closing_begun :
    let atEnd := { frameAt .claim .over .originator with request := [0, 30, 1] }
    let begun := after (.claimFrame false [.closingBegun]) (judging .new atEnd)
    let kept := fun s => ((after (.supplyFall .rstLow 0) s).slot 4).state
    StoreIdle (judging .new atEnd) ∧ (begun.slot 4).state = .primary ∧ begun.frame.map (·.closed) = some true ∧ kept begun = .primary ∧
    kept (judging .new atEnd) = .claiming ∧
    (after (.breakOff .dataFall) begun).result = begun.result ∧ begun.result.map (·.outcome) = some .granted := by decide +kernel

/-- R26, R60, R86: a closing before the ACK bit begins ends the frame with nothing applied. -/
theorem test_no_ack_bit :
    let r := { frameAt .write .ack .participant with
      slot := some 7, holder := some 5, answerCheck := some true, answer := 0x81 :: versionBytes 42,
      request := [0x63, 20, 126, 1, 1, 2, 3, 4] }
    let t := after (.writeFrame false [.closing]) (inFrame r (station 9 [(7, copy .mirror 20 (some 5) 41)]))
    t.frame = none ∧ (t.slot 7).version = 41 ∧ t.store = [] := by decide +kernel

/-- R25, R27, R29: PBC falling in the hold opens the frame; PBD falling in a frame ends it; an opener that breaks off before its
header is whole leaves the marker. -/
theorem test_line_edges :
    let held := { (atHeader 9) with view := .opening, frame := none }
    let joined := after (.writeFrame false [.low]) held
    joined.frame.map (·.part) = some .opener ∧ joined.frame.map (·.low) = some true ∧
    (after (.writeFrame false [.opening]) joined).frame = none ∧
    (after (.writeFrame false [.opening]) joined).marker = false ∧
    (after (.writeFrame false [.header 0xF, .opening]) joined).marker = true := by decide +kernel

/-- R38: the lines driven in a bus clear; R160, R168: SDO driven; R168: the stages. -/
theorem test_lines_driven :
    clearingDrives ⟨true, [], true, true⟩ = closingPhases ∧
    clearingDrives ⟨false, [⟨true, true⟩], true, true⟩ = pulsePhases ++ closingPhases ∧
    (clearingDrives ⟨false, List.replicate 17 ⟨true, false⟩, true, true⟩).length = 32 ∧
    drivesLine { serving with view := .clearing } = true ∧
    drivesSdo serving = false ∧ drivesSdo idle = true ∧ drivesSdo State.reset = false ∧
    (let stage := fun cs => (run cs idle).txn.map (·.stage)
    let byte := Instr.replyByteClockedOut
    stage [] = some .command ∧ stage [byte] = some .arguments ∧ stage [.identify] = some .replying ∧
    stage [.read 20 0 0] = some .waiting ∧ stage [.read 20 0 0, .storeAccessEnd] = some .waiting ∧
    stage [.read 20 0 0, .storeAccessEnd, byte] = some .replying ∧
    stage (.identify :: List.replicate 8 byte) = some .done) := by decide +kernel

/-- R33: two senders of one number answer together; each reads the combination, and both find the check bad. -/
theorem test_two_senders :
    let r := { frameAt .verify .answer .participant with slot := some 7, contest := .won }
    let t := after (.verifyFrame ((versionBytes 6 ++ [crc8 (versionBytes 6)]).map .byte))
      (inFrame r (station 2 [(7, copy .primary 20 none 5)]))
    t.frame.map (·.answer) = some (versionBytes 4) ∧ t.frame.map (·.answerCheck) = some (some false) := by decide +kernel

/-- R129: a REPAIR ends with the demotion of its slot, at the bit that loses it. -/
theorem test_repair_demoted :
    let r := { frameAt .repair .holder .originator with slot := some 3, roleDrive := .presence }
    let s := { mending .repair { copy .primary 9 (some 2) 8 with damaged := true } r with upkeep := some ⟨.repair, 3, 0⟩ }
    let t := after (.repairFrame false (List.replicate 6 (.bit false) ++ [.bit true])) { s with
      straps := { s.straps with number := 2 } }
    (t.slot 3).state = .stale ∧ t.upkeep = none ∧ (t.frame.map (·.bits.length)) = some 7 := by decide +kernel

/-! ### Witnesses for further clauses -/

theorem witness_transaction_arbiter :
    let s := copying .port { idle with arbiter := Arbiter.idle }
    let t := after (.transactionEnd false) s
    t.arbiter.inProgress.map (·.live) = some false ∧ t.arbiter.inProgress.map (·.slot) = some 7 ∧
    (after (.transactionEnd false) (copying .frame idle)).arbiter.inProgress.map (·.live) = some true := by decide +kernel

theorem witness_reply_order :
    let sent := fun s => (after .replyByteClockedOut s).txn.map fun t =>
      (t.sending.map (·.2), t.statusSent, t.ready.length, t.fillerBegun)
    let late := { replying none with txn := (replying none).txn.map fun t => { t with fillerBegun := true } }
    (after .replyByteClockedOut late).sdo = 0 ∧ sent late = some (none, false, 1, false) ∧
    sent (replying none) = some (some 1, false, 0, false) ∧ sent (replying (some 1)) = some (some 2, true, 0, false) ∧
    sent (replying (some 2)) = some (none, false, 0, true) := by decide +kernel

/-- R169: a reply that becomes ready inside a byte begun as filler waits for the next byte. -/
theorem test_filler_stays :
    let bytes := fun n => (run (.read 20 0 0 :: .storeAccessEnd :: List.replicate n .replyByteClockedOut) idle).sdo
    bytes 1 = 0 ∧ bytes 2 = 0x5A ∧ bytes 3 = 0x01 ∧
    (run [.identify, .replyByteClockedOut] idle).sdo = 0x5A := by decide +kernel

/-- R168, R169: with SCK held high until the reply is ready, the next byte begins with the marker. -/
theorem test_sck_held :
    let t := run [.read 20 0 0, .storeAccessEnd, .replyByteClockedOut true] idle
    t.sdo = 0x5A ∧ t.txn.map (·.sending.map (·.2)) = some (some 1) ∧
    (after (.replyByteClockedOut true) idle).txn.map (·.received) = some 1 ∧
    (run [.replyByteClockedOut, .transactionEnd false] idle).short = true := by decide +kernel

/-- R59: a bit more than the frame has turns its closing into a break-off: a mirror that drove HOLD stays as it is. -/
theorem test_past_the_end :
    let r := { frameAt .write .over .participant with slot := some 7, holder := some 5, answer := [0x81], holdDriven := true }
    let s := inFrame r (station 9 [(7, copy .mirror 20 (some 5) 41)])
    let ends := fun es => ((after (.writeFrame false es) s).slot 7).state
    ends [.closing] = .stale ∧ ends [.bit false, .closing] = .mirror ∧ ends [.byte 0xFF, .low, .closing] = .mirror ∧
    ((after (.writeFrame false [.bit false]) s).frame.map (·.point)) = some .past ∧
    ((after (.writeFrame false [.bit false, .bit true]) s).frame.map (·.point)) = some .past := by decide +kernel

/-- R59, R167: at the originator the cycle of PBC after its end is that of its own closing. -/
theorem test_past_at_originator :
    let atEnd := { frameAt .claim .over .originator with request := [0, 30, 1] }
    let t := after (.claimFrame false [.bit true]) (judging .new atEnd)
    (t.slot 4).state = .primary ∧ t.frame.map (fun r => (r.point, r.closed)) = some (.past, true) ∧
    (after (.claimFrame false [.closing]) t).slots = t.slots ∧ (after (.claimFrame false [.closing]) t).accrued = t.accrued := by
  decide +kernel

/-- A WRITE of station 2 that holds the page itself, at its status byte. -/
def selfHeld : State :=
  let r := { frameAt .write .answer .originator with
    slot := some 7, contest := .won, holder := some 2, request := [0x62, 20, 0, 0, 1, 2], alone := true }
  queued [flying (.write 20 0 [0x0102])] { serving with view := .inFrame false, frame := some r, own := some ⟨.entry, []⟩ }

/-- R85, R90: bits another station drives into its answer do not undo the holder's own application, and the frame's fields stand
where the holder sends them. -/
theorem test_self_held_disturbed :
    let answer : List FrameEvent := [.byte 0x7E, .byte 0xFF, .byte 0xFF, .byte 0xFF, .byte 0xFF, .byte 0x00]
    let t := after (.writeFrame false answer) selfHeld
    let u := after (.writeFrame false [.bit true, .bit false, .closing]) t
    (t.slot 7).version = 42 ∧ t.frame.map (·.point) = some .ack ∧ t.frame.map (·.answerCheck) = some (some true) ∧
    u.queue = [] ∧ u.faults = [] ∧ u.outcome.flags = 0 ∧ (u.slot 7).partner = some 9 := by decide +kernel

/-- R33: two stations of one number that open together are told by the request part; each acts on the answer it read. -/
theorem test_twins :
    let opener := { (atHeader 9) with own := some ⟨.entry, [0x69, 3]⟩ }
    let alone := fun es => (after (.writeFrame false es) opener).frame.map (·.alone)
    let twin := { selfHeld with frame := selfHeld.frame.map fun r => { r with alone := false } }
    let t := after (.writeFrame false [.byte 0x7E, .byte 0xFF, .byte 0xFF, .byte 0xFF, .byte 0xFF, .byte 0x00]) twin
    alone [.header 9, .byte 3] = some false ∧ alone [.header 9, .byte 0xFF] = some true ∧ alone [.header 0xF] = some true ∧
    (t.slot 7).version = 42 ∧ t.frame.map (·.answerCheck) = some (some false) ∧
    (after (.writeFrame false [.bit true, .bit false, .closing]) t).queue.map (·.attempts) = [1] := by decide +kernel

theorem witness_twin_check :
    let r := { frameAt .write .check .opener with request := [0x69, 3] }
    let s := { atHeader 9 with frame := some r, own := some ⟨.entry, [0x69, 3, 0x7E]⟩ }
    let ends := fun b => (after (.writeFrame false [.byte b]) s).frame.map fun r => (r.part, r.point, r.alone)
    StandsAt s r .write .check ∧ ends 0x7E = some (.originator, .void, false) ∧
    ends 0xFF = some (.originator, .void, true) := by decide +kernel

theorem witness_answer_check :
    let r := { frameAt .write .answerCheck .originator with holder := some 5, answer := [0x82] }
    let s := fun r => ending .write (.write 20 0 [1]) 0 r
    let check := fun r b => (after (.writeFrame false [.byte b]) (s r)).frame.map (·.answerCheck)
    let own := { r with contest := .won, status := some 0x82, toSend := [crc8 [0x82]], alone := true }
    HeadInFlight (s r) (flying (.write 20 0 [1])) [⟨8, .write 20 3 [5], 0, 0, false⟩] ∧
    check r (crc8 [0x82]) = some (some true) ∧ check r 0 = some (some false) ∧ check own 0 = some (some true) ∧
    check { own with alone := false } 0 = some (some false) ∧ check { own with alone := false } 0xFF = some (some true) ∧
    (after (.writeFrame false [.byte 0]) (s r)).queue.map (·.gathered) = [withFlag .answerBad 0, 0] := by decide +kernel

theorem witness_images :
    let s := queued [⟨8, .claim 30 .adopt none, 1, 0, false⟩] { idle with abandoned := some (flying (.release 1)) }
    queueImage s = [1, 0, 8, 7, 8, 0x23, 30, 1] ∧ outcomeImage ⟨0x8001, some (.read, 5), true⟩ = [0x80, 1, 7, 5, 1] ∧
    faultImage (.writeFailed .prot ⟨1, 5, 0, [0x0102]⟩ [⟨2, 5, 127, [3]⟩]) =
      [1, Code.prot.code, 1, 1, 5, 0, 1, 1, 2, 2, 5, 127, 1, 0, 3] ∧
    faultImage (.format .follower2 .range 9 127) = [2, 2, 2, 9, 127] := by decide +kernel

theorem witness_abandon_in_flight :
    let s := queued [flying (.claim 30 .new (some 4))] (asked (station 2 [(4, copy .claiming 30 none 0)]))
    (after .abandon s).slot 4 = s.slot 4 ∧ (after .abandon s).queue = [] ∧
    (after .abandon s).abandoned = some (flying (.claim 30 .new (some 4))) := by decide +kernel

theorem witness_stuck_again :
    let s := { serving with view := .stuck, stuck := 0 }
    s.onBus = true ∧ (after .stuckBus s).latches = Latch.link.mask ∧ (after .stuckBus s).stuck = 2049 ∧
    after .stuckBus { s with stuck := 2048 } ≠ { s with stuck := 2048 } ∧
    after .stuckBus { s with stuck := 2049 } = { s with stuck := 2049 } := by decide +kernel

theorem witness_heads :
    let s := fun b => queued [⟨7, b, 0, 0, false⟩] (station 2
      [(5, copy .stale 31 (some 3) 6), (6, copy .mirror 40 (some 3) 6), (7, copy .primary 20 none 41)])
    let opens := fun gap b => (after (.frameOpportunity gap false) (s b)).own.map (·.request.take 4)
    opens 12 (.claim 30 .new none) = some [0x32, 30, 1, crc8 [0x32, 30, 1]] ∧
    opens 12 (.claim 31 .adopt none) = some [0x32, 31, 2, crc8 [0x32, 31, 2]] ∧
    opens 12 (.release 20) = some [0x42, 20, 1, crc8 [0x42, 20, 1]] ∧
    opens 12 (.release 40) = some [0x42, 40, 2, crc8 [0x42, 40, 2]] ∧
    opens 12 (.read 31 127 16) = some [0x72, 31, 127, 15] ∧ opens 11 (.read 31 127 16) = none ∧
    (after (.frameOpportunity 23 false) { s (.release 20) with marker := true }).own = none ∧
    ((after (.frameOpportunity 24 false) { s (.release 20) with marker := true }).own).isSome = true := by decide +kernel

theorem witness_lost_bit :
    let r := fun pt (req : List Byte) bits => { frameAt .write pt .opener with request := req, bits := bits }
    let s := fun r => { atHeader 9 with frame := some r, own := some ⟨.entry, [0x69, 0x80, 0x01]⟩ }
    let part := fun r => (after (.writeFrame false [.bit true]) (s r)).frame.map (·.part)
    HeadInFlight (s (r .page [0x69] [])) (flying (.write 3 0 [1])) [] ∧
    part (r .page [0x69] []) = some .participant ∧ part (r .page [0x69] [true]) = some .opener ∧
    part (r .field [0x69, 0x80] (List.replicate 6 false)) = some .opener := by decide +kernel

theorem witness_lost_upkeep :
    let s := { atHeader 12 with own := some ⟨.upkeep .write 3, [0x6C]⟩, upkeep := some ⟨.offer, 3, 0⟩ }
    let given := { queued [] (atHeader 12) with
      abandoned := some (flying (.claim 30 .new (some 4))), slots := (station 2 [(4, copy .claiming 30 none 0)]).slots }
    (after (.claimFrame false [.header 9]) s).upkeep.map (·.flags) = some (withFlag .arbLost 0) ∧
    ((after (.claimFrame false [.header 9]) given).slot 4) = Slot.freed ∧
    (after (.claimFrame false [.header 9]) given).abandoned = none := by decide +kernel

theorem witness_void_good :
    let s := inFrame { frameAt .read .void .participant with checkGood := true } serving
    let at' := fun b => (after (.readFrame [.bit b]) s).frame.map fun r => (r.voidRead, r.point)
    at' false = some (false, .presence) ∧ at' true = some (true, .over) := by decide +kernel

theorem witness_presence :
    let r := fun k part => { frameAt k .presence part with slot := some 7 }
    let reads := fun k part st => (after (frameRow k false [.bit false])
      (inFrame (r k part) (station 2 [(7, copy st 20 (some 9) 41)]))).frame.map (·.presence)
    reads .read .participant .primary = some true ∧ reads .read .originator .primary = some false ∧
    reads .write .originator .primary = some true ∧ reads .claim .participant .doubt = some true ∧
    reads .read .participant .doubt = some false ∧ reads .offer .originator .mirror = some false := by decide +kernel

theorem witness_claim_holder :
    let r := { frameAt .claim .holder .participant with slot := some 7, roleDrive := .presence }
    let t := after (.claimFrame false [.byte 0x01]) (inFrame r serving)
    (t.slot 7).state = .primary ∧ t.frame.map (·.contest) = some .lost ∧ t.latches = 0 := by decide +kernel

theorem witness_demoted_bit :
    let r := { frameAt .read .holder .participant with
      slot := some 7, roleDrive := .presence, bits := List.replicate 6 false }
    let t := after (.readFrame [.bit true]) (inFrame r serving)
    (0#4 ++ serving.straps.number : Byte).getLsbD 1 = true ∧ (t.slot 7).state = .stale ∧
    (t.slot 7).partner = some 1 ∧ (after (.readFrame [.bit true]) t).frame.map (·.holder) = some (some 0) ∧
    ((after (.readFrame [.bit true]) t).slot 7).partner = some 0 := by decide +kernel

theorem witness_rejoin_stays :
    let atEnd := frameAt .verify .over .originator
    let s := (verifying atEnd).setSlot 5 (copy .doubt 10 none 1)
    (after (.verifyFrame [.closing]) s).station = .rejoin ∧
    ((after (.verifyFrame [.closing]) s).slot 3).state = .primary := by decide +kernel

theorem witness_winner_ack :
    let r := fun good => { frameAt .offer .winnerAck .participant with
      originator := 4, incoming := some 3, answerCheck := some good, answer := emptyStream,
      request := [0, 0] ++ versionBytes 8 }
    let t := fun good prot => after (.offerFrame prot [.bit false])
      (inFrame (r good) (station 8 [(3, copy .incoming 9 (some 4) 0)]))
    let acks := fun good prot => ((t good prot).frame.map (·.ack), ((t good prot).slot 3).version)
    (r true).answerVersion = (r true).reqVersion ∧ acks true false = (some true, 8) ∧ acks false false = (some false, 0) ∧
    acks true true = (some false, 0) := by decide +kernel

theorem witness_final_bits :
    let r := { frameAt .write .ack .participant with
      slot := some 7, holder := some 5, answerCheck := some true, answer := 0x81 :: versionBytes 43,
      request := [0x63, 20, 126, 1, 1, 2, 3, 4] }
    let t := fun pt st p => after (.writeFrame false [.bit false])
      (inFrame { r with point := pt } (station 9 [(7, copy st 20 (some p) 41)]))
    ((t .ack .mirror 5).frame.map (·.ack)) = some false ∧ ((t .ack .mirror 5).slot 7).version = 41 ∧
    ((t .hold .mirror 5).frame.map (·.holdDriven)) = some true ∧ ((t .hold .stale 5).frame.map (·.hold)) = some true ∧
    ((t .hold .mirror 6).frame.map (·.hold)) = some false := by decide +kernel

theorem witness_write_closing_kept :
    let r := { frameAt .write .over .participant with slot := some 7, holder := some 5, answer := [0x81] }
    let ends := fun c st => (after (.writeFrame false [.closing])
      (inFrame { r with contest := c, holdDriven := true } (station 9 [(7, copy st 20 (some 5) 41)]))).slot 7
    ends .lost .mirror = copy .mirror 20 (some 5) 41 ∧ ends .notDriving .stale = copy .stale 20 (some 5) 41 ∧
    ends .lost .primary = copy .primary 20 (some 5) 41 := by decide +kernel

theorem witness_write_own_slot :
    let atEnd := frameAt .write .over .originator
    let s := fun r (d : Slot) => queued [flying (.write 20 0 [1]), ⟨8, .write 20 3 [5], 0, 0, false⟩,
        ⟨9, .write 21 3 [6], 0, 0, false⟩, ⟨10, .write 20 4 [7], 0, 0, false⟩, ⟨11, .write 20 5 [8], 0, 0, false⟩]
      (ownFrame .entry { r with slot := some 7 } (station 2 [(7, d)]))
    let t := fun r d => after (.writeFrame false [.closing]) (s r d)
    let good := { atEnd with holder := some 2, answer := [0x81], status := some 0x81, answerCheck := some true }
    (t atEnd (copy .free 0 none 0)).queue.map (·.tag) = [9, 11] ∧
    ((t { good with contest := .won } (copy .primary 20 (some 9) 41)).slot 7).partner = none ∧
    ((t { good with contest := .won, hold := true } (copy .primary 20 (some 9) 41)).slot 7).partner = some 9 ∧
    ((t { good with holder := some 3 } (copy .mirror 20 (some 9) 41)).slot 7).state = .stale ∧
    ((t { good with holder := some 9 } (copy .mirror 20 (some 9) 41)).slot 7).state = .mirror := by decide +kernel

theorem witness_snapshot_mark :
    let part := { idle with txn := some { Transaction.begun with taken := true, awaiting := some ⟨20, 1, 1, true⟩ } }
    let s := copying .port (part.setSlot 7 { part.slot 7 with damaged := true })
    (after .storeAccessEnd (s.setSlot 7 (part.slot 7))).txn.map (fun t => t.ready.map (·.status)) = some [.damaged] := by
  decide +kernel

/-! ### Witnesses for the wider clauses -/

/-- R33, R90, log 41: one of two of a number that breaks off goes by the status byte it read, while it has read none by its own decision;
an originator alone goes by its own. -/
theorem test_twin_breaks_off :
    let r := { frameAt .write .answer .originator with slot := some 7, contest := .won, holder := some 2 }
    let ends := fun r => let t := after (.breakOff .dataFall) (ending .write (.write 20 0 [1]) 0 r)
      (t.queue.map (·.attempts), t.outcome.flags == withFlag .broken 0)
    ends { r with status := some 0x03, answer := [0x01] } = ([0], true) ∧
    ends { r with status := some 0x01, answer := [0x00] } = ([1, 0], true) ∧
    ends { r with status := some 0x01 } = ([0], true) ∧ ends { r with status := some 0x03 } = ([1, 0], true) ∧
    ends { r with status := some 0x01, answer := [0x00], alone := true } = ([0], true) := by decide +kernel

/-- R177: the words of a part not held begin with the fall of SCK that ends its status byte, and the next part falls due. -/
theorem test_next_part_due :
    let s := { asked (station 1 [(5, copy .mirror 18 (some 2) 0)]) with pointerPage := 17, pointerWord := 120 }
    let awaits := fun n => (run (.streamRead 15 :: List.replicate n .replyByteClockedOut) s).txn.map (·.awaiting.isSome)
    awaits 0 = some false ∧ awaits 1 = some false ∧ awaits 2 = some true ∧
    (after (.streamRead 15) s).txn.map (fun t => (t.todo, t.ready.map (·.status))) =
      some ([⟨18, 0, 8, true⟩], [.notHeld]) := by decide +kernel

theorem witness_parts_due :
    let t := { Transaction.begun with taken := true, todo := [⟨20, 0, 2, true⟩, ⟨21, 0, 1, true⟩] }
    let s := { idle with txn := some t }
    StoreIdle s ∧ lookup s 20 = some 7 ∧ (nextPartDue s).txn.map (·.awaiting) = some (some ⟨20, 0, 2, true⟩) ∧
    (after .storeAccessEnd (nextPartDue s)).txn.map (fun t => (t.todo, t.ready.map (·.status))) =
      some ([], [.ok, .notHeld]) := by decide +kernel

theorem witness_bus_clear_pulses :
    let s := after .busClear (inFrame (frameAt .read .page .onlooker) idle)
    let ends := fun n p => (after (.busClearEnd ⟨false, List.replicate n ⟨true, false⟩ ++ [p], true, true⟩) s).txn.map
      fun t => t.ready.map (·.status)
    s.view = .clearing ∧ ends 0 ⟨true, true⟩ = some [.cleared] ∧ ends 15 ⟨true, true⟩ = some [.cleared] ∧
    ends 0 ⟨false, false⟩ = some [.stillStuck] ∧ ends 15 ⟨false, true⟩ = some [.stillStuck] := by decide +kernel

/-- A CLAIM, RELEASE or READ of an entry with some attempts, broken off or stuck, at its originator. -/
theorem witness_third_attempt :
    let s := fun k body n r => ending k body n { frameAt k .void .originator with voidRead := r }
    let ends := fun c s => let t := after c s
      (t.queue.map (·.attempts), t.result.map (·.outcome), t.latches)
    ends (.breakOff .dataFall) (s .read (.read 20 0 1) 1 false) = ([2, 0], none, 0) ∧
    ends (.breakOff .dataFall) (s .read (.read 20 0 1) 2 false) = ([0], some .broken, Latch.done.mask) ∧
    ends (.breakOff .dataFall) (s .release (.release 20) 2 true) = ([0], some .void, Latch.done.mask) ∧
    ends .stuckBus (s .release (.release 20) 2 false) = ([0], some .timeout, Latch.done.mask ||| Latch.link.mask) ∧
    (let t := after .stuckBus { claiming with queue := [{ flying (.claim 30 .new (some 4)) with attempts := 2 }] }
     t.slot 4 = Slot.freed ∧ t.result.map (·.outcome) = some .timeout) := by decide +kernel

theorem witness_write_broken :
    let r := { frameAt .write .over .originator with holder := some 5, answer := [0x81] }
    let ends := fun c n r => let t := after c (ending .write (.write 20 0 [1]) n r)
      (t.queue.map (·.attempts), t.faults.length, t.accrued)
    let link := AccruedFlag.link.mask
    ends (.breakOff .dataFall) 0 { r with point := .answer } = ([0], 0, link) ∧
    ends .stuckBus 0 r = ([0], 0, link ||| AccruedFlag.degraded.mask) ∧
    ends (.breakOff .dataFall) 0 { r with answerCheck := some false } = ([1, 0], 0, 0) ∧
    ends (.breakOff .dataFall) 2 { r with answer := [0x82] } = ([], 1, link) := by decide +kernel

theorem witness_incoming_dropped :
    let r := { frameAt .offer .answer .participant with incoming := some 3 }
    let t := after (.breakOff .dataFall) (inFrame r (station 8 [(3, copy .incoming 9 (some 4) 0)]))
    r.closed = false ∧ t.slot 3 = Slot.freed ∧ t.latches = Latch.role.mask ∧ t.accrued = 0 := by decide +kernel

theorem witness_hand_over_goes_on :
    let write : Entry := ⟨8, .write 20 3 [5], 0, 0, false⟩
    let s := queued [⟨7, .claim 30 .new (some 4), 0, 0, false⟩, write] (station 2 [(4, copy .claiming 30 none 0)])
    let t := after (.frameOpportunity 12 true) s
    let read := after (.frameOpportunity 12 false) (queued [⟨7, .read 20 127 1, 0, 0, false⟩, write] serving)
    t.result.map (·.outcome) = some .prot ∧ t.slot 4 = Slot.freed ∧ t.own.map (·.op) = some .entry ∧
    t.queue = [{ write with inFlight := true }] ∧ t.outcome.identity = some (.write, 8) ∧
    StoreIdle serving ∧ read.own = none ∧ read.arbiter.busyFor .handover = true := by decide +kernel

/-- An opener at the last bit of a byte it loses at, with an upkeep operation or the head's frame. -/
def lastBit (pt : Point) (request : List Byte) (read : Byte) : State :=
  let r := { frameAt .read pt .opener with
    request := request, bits := (byteBits read).take 7, kindCode := if pt = .header then none else some 7 }
  { atHeader 9 with
    frame := some r, own := some ⟨.upkeep .read 3, [0xFF, 0x21, 0xFF, 0x0F, 0xFF]⟩, upkeep := some ⟨.offer, 3, 0⟩ }

/-- It goes on with what it has read: a page, a field in range or out of it, a check; or an undefined kind. -/
theorem witness_lost_last_bit :
    let ends := fun pt req read => (after (.readFrame [.bit true]) (lastBit pt req read)).frame.map fun r => (r.part, r.point)
    ends .header [] 0x7E = some (.participant, .page) ∧ ends .header [] 0x8E = some (.onlooker, .page) ∧
    ends .page [0x70] 0x20 = some (.participant, .field) ∧ ends .field [0x70, 3, 0] 0x0E = some (.participant, .check) ∧
    ends .field [0x70, 3, 0] 0x1E = some (.onlooker, .check) ∧
    ends .check [0x70, 3, 0, 0] 0x00 = some (.participant, .void) ∧
    (after (.readFrame [.bit true]) (lastBit .page [0x70] 0x20)).upkeep.map (·.flags) = some (withFlag .arbLost 0) := by
  decide +kernel

theorem witness_void_originator :
    let bit := after (.claimFrame false [.bit true]) claiming
    let void := fun k => { frameAt k .over .originator with voidRead := true }
    let third := after (.claimFrame false [.closing]) (queued [{ flying (.claim 30 .new (some 4)) with attempts := 2 }]
      (ownFrame .entry (void .claim) (station 2 [(4, copy .claiming 30 none 0)])))
    let given := after (.claimFrame false [.closing]) { ownFrame .entry (void .claim) (station 2 [(4, copy .claiming 30 none 0)]) with
      abandoned := some (flying (.claim 30 .new (some 4))) }
    let mends := fun k st => let s := mending k (copy st 9 (some 6) 8) (void k)
      let t := after (frameRow k false [.closing]) { s with upkeep := some ⟨k, 3, 0⟩ }
      ((t.slot 3).attempts, t.upkeep.isSome)
    StandsAt claiming (frameAt .claim .void .originator) .claim .void ∧
    bit.queue.map (·.gathered) = [withFlag .void 0] ∧ bit.outcome.flags = withFlag .void 0 ∧
    bit.frame.map (fun r => (r.voidRead, r.point)) = some (true, .over) ∧
    (after (.claimFrame false [.closing]) bit).queue.map (·.attempts) = [1] ∧
    third.result.map (·.outcome) = some .void ∧ third.slot 4 = Slot.freed ∧
    given.abandoned = none ∧ given.slot 4 = Slot.freed ∧ given.result = none ∧
    mends .verify .doubt = (1, true) ∧ mends .resync .stale = (1, true) ∧ mends .repair .primary = (1, true) ∧
    mends .offer .primary = (0, true) := by decide +kernel

/-- The flags an upkeep frame's closing adds, and its operation ended. -/
theorem witness_upkeep_flags :
    let s := fun k d r => { mending k d r with upkeep := some ⟨k, 3, 0⟩, outcome := ⟨0, some (k, 3), false⟩ }
    let ends := fun k d (r : FrameRecord) => let t := after (frameRow k false [.closing]) (s k d r)
      (t.outcome.flags, t.outcome.ended, t.accrued)
    let at' := fun k => frameAt k .over .originator
    let answer := fun k v => { at' k with holder := some 6, answerCheck := some true, answer := versionBytes v, fill := true }
    let doubt := copy .doubt 9 (some 6) 8
    let degraded := AccruedFlag.degraded.mask
    ends .verify doubt { answer .verify 8 with presence := true } = (withFlag .demoted 0, true, degraded) ∧
    ends .verify doubt (answer .verify 7) = (withFlag .staleMirror 0, true, degraded) ∧
    ends .verify doubt (answer .verify 8) = (0, true, 0) ∧
    ends .verify doubt { at' .verify with fill := true } = (withFlag .answerBad 0, false, 0) ∧
    ends .verify { doubt with attempts := 2 } { at' .verify with fill := true } =
      (withFlag .answerBad 0, true, AccruedFlag.link.mask) ∧
    ends .resync (copy .stale 9 (some 6) 8) { at' .resync with holder := some 6 } =
      (withFlag .refused 0, true, AccruedFlag.unfound.mask) ∧
    ends .resync (copy .stale 9 (some 6) 8) (at' .resync) = (withFlag .noHolder 0, true, 0) ∧
    ends .offer (copy .primary 9 none 8) { at' .offer with holder := some 0 } =
      (withFlag .noBidder 0, true, AccruedFlag.unfound.mask) ∧
    ends .offer (copy .primary 9 none 8) { at' .offer with holder := some 0, bidByte := 8 } =
      (withFlag .noAck 0, true, AccruedFlag.unfound.mask) ∧
    ends .offer (copy .primary 9 none 8) { at' .offer with holder := some 3 } = (0, true, 0) := by decide +kernel

/-- The flags and latches of an entry's closing. -/
theorem witness_entry_flags :
    let ends := fun k body r => let t := after (frameRow k false [.closing]) (ending k body 0 r)
      (t.outcome.flags, t.accrued, t.latches)
    let at' := fun k => frameAt k .over .originator
    let write := fun b => { at' .write with holder := some 5, answer := [b], answerCheck := some true }
    let w := ends .write (.write 20 0 [1])
    let rd := ends .read (.read 20 0 1)
    let (loss, degraded) := (AccruedFlag.loss.mask, AccruedFlag.degraded.mask)
    w (at' .write) = (withFlag .noHolder 0, loss, Latch.fault.mask) ∧
    w { write 0x81 with hold := true } = (withFlag .staleMirror 0, degraded, 0) ∧
    w (write 0x81) = (withFlag .unmirrored 0, degraded, 0) ∧ w { write 0x81 with ack := true } = (0, 0, 0) ∧
    w (write 2) = (withFlag .prot 0, loss, Latch.fault.mask) ∧ w (write 3) = (withFlag .worn 0, loss, Latch.fault.mask) ∧
    w (write 4) = (0, 0, Latch.fault.mask) ∧ rd (at' .read) = (withFlag .noHolder 0, 0, Latch.done.mask) ∧
    rd { at' .read with holder := some 5, answer := [2, 1, 2], answerCheck := some true, request := [0x72, 20, 0, 0] } =
      (withFlag .damaged 0, AccruedFlag.damage.mask, Latch.done.mask) := by decide +kernel

theorem witness_resync_freed :
    let r := { frameAt .release .over .participant with
      slot := some 7, originator := 2, choiceDriven := true, request := [0, 20, 1] }
    let s := { inFrame r (station 9 [(7, copy .stale 20 (some 2) 41)]) with
      upkeep := some ⟨.resync, 7, withFlag .broken 0⟩, outcome := ⟨withFlag .broken 0, some (.resync, 7), false⟩ }
    let t := after (.releaseFrame [.closing]) s
    t.slot 7 = Slot.freed ∧ t.upkeep = none ∧ t.outcome = { s.outcome with ended := true } ∧
    t.accrued = AccruedFlag.link.mask := by decide +kernel

/-- R85, R93: what a holder sends after its status. -/
theorem witness_answers_sent :
    let w := { frameAt .write .answer .participant with
      slot := some 7, contest := .won, request := [0x63, 20, 126, 1, 1, 2, 3, 4] }
    let rd := { frameAt .read .answer .participant with slot := some 7, contest := .won, request := [0x73, 20, 0, 1] }
    let t := after (.writeFrame false [.low]) (inFrame w serving)
    let sent := fun (s : State) => s.frame.map fun r => (r.answer, r.toSend, r.point)
    let b : Byte := 0x81
    (sent t).map (·.2.1) = some (withCheck (b :: versionBytes 42)) ∧
    sent (after (.writeFrame false [.byte 0xFF]) t) = some ([b], versionBytes 42 ++ [crc8 (b :: versionBytes 42)], .answer) ∧
    sent (after (.readFrame [.byte 0xFF]) (inFrame rd serving)) =
      some ([1], [5, 0, 0, 0, crc8 [1, 5, 0, 0, 0]], .answer) := by decide +kernel

end Sys2Proof.Tests
end

section
/-! The seek tick (R117): its effect on one slot, case by case, and on the station. -/

namespace Sys2Proof.Machine

/-- Seek due of a slot after the tick: kept where it was set, and set on a PRIMARY without a partner under MS. -/
def Slot.seekDueAfterTick (ms : Bool) (r : Slot) : Bool :=
  r.seekDue || (r.state == .primary && r.partner.isNone && ms)

/-- A damaged PRIMARY that has a partner and whose REPAIR is not due: the tick's third case. -/
def Slot.AwaitsRepair (r : Slot) : Prop :=
  r.state = .primary ∧ r.damaged = true ∧ r.partner ≠ none ∧ r.recoveryDue = false

/-- The tick's own test for its third case is `AwaitsRepair`. -/
theorem awaitsRepair_iff_isSome (r : Slot) :
    r.AwaitsRepair ↔ r.state = .primary ∧ r.damaged ∧ r.partner.isSome ∧ r.recoveryDue = false := by
  simp [Slot.AwaitsRepair, Option.isSome_iff_ne_none]

/-- A slot whose tries are spent is tried again. -/
theorem atSeekTick_of_spent (ms : Bool) {r : Slot} (spent : r.attempts = 3) :
    r.atSeekTick ms = { r with seekDue := r.seekDueAfterTick ms, attempts := 0, recoveryDue := true } :=
  if_pos spent

/-- A damaged PRIMARY that has gained a partner becomes due for REPAIR. -/
theorem atSeekTick_of_awaitsRepair (ms : Bool) {r : Slot} (unspent : r.attempts ≠ 3) (awaits : r.AwaitsRepair) :
    r.atSeekTick ms = { r with seekDue := r.seekDueAfterTick ms, attempts := 0, recoveryDue := true } :=
  (if_neg unspent).trans (if_pos ((awaitsRepair_iff_isSome r).mp awaits))

/-- Any other slot is touched in its seek due alone. -/
theorem atSeekTick_of_not_awaitsRepair (ms : Bool) {r : Slot} (unspent : r.attempts ≠ 3) (other : ¬ r.AwaitsRepair) :
    r.atSeekTick ms = { r with seekDue := r.seekDueAfterTick ms } :=
  (if_neg unspent).trans (if_neg (mt (awaitsRepair_iff_isSome r).mpr other))

/-- What SEEK_TICK does to the station. -/
theorem exec_seekTick (s : State) : exec .seekTick s = .next (seekTick s) := rfl

/-- Off the bus the tick does not run (R165). -/
theorem seekTick_of_offBus {s : State} (off : s.onBus = false) : seekTick s = s := by
  simp [seekTick, off]

/-- On the bus the tick takes every slot at once and writes nothing else. -/
theorem seekTick_of_onBus {s : State} (on : s.onBus = true) :
    seekTick s = { s with slots := mapSlots (Slot.atSeekTick s.straps.ms) s.slots } := by
  simp [seekTick, on]

end Sys2Proof.Machine

namespace Sys2Proof.Proofs

open Sys2Proof.Machine

/-- Settles O44: the tick maps `Slot.atSeekTick` over the slots, and its three cases are the three clauses of R117. -/
theorem seekTick : Obligations.SeekTick := by
  unfold Obligations.SeekTick
  refine ⟨fun s off => by rw [exec_seekTick, seekTick_of_offBus off], fun s on => ?_⟩
  rw [exec_seekTick, seekTick_of_onBus on]
  refine ⟨_, rfl, rfl, fun i => ?_⟩
  simp only [slot_mapSlots]
  refine ⟨fun spent => ?_, fun unspent awaits => ?_, fun unspent other => ?_⟩
  · exact atSeekTick_of_spent s.straps.ms spent
  · exact atSeekTick_of_awaitsRepair s.straps.ms unspent awaits
  · exact atSeekTick_of_not_awaitsRepair s.straps.ms unspent other

end Sys2Proof.Proofs
end

section
/-! TAKE RESULT (R143), READ ACCRUED and CLEAR ACCRUED (R148): what each does, and what the end of an operation adds to the accrued
set (R147). -/

namespace Sys2Proof.Machine

/-! ### TAKE RESULT -/

/-- What TAKE_RESULT does to the station. -/
theorem exec_takeResult (s : State) : exec .takeResult s = .next (localCommand takeResult s) := rfl

/-- A valid record is taken. -/
theorem takeResult_of_some {s : State} {r : ResultRecord} (valid : s.result = some r) :
    takeResult s = reply .ok (resultImage r) { s with result := none } := by
  simp only [takeResult, valid]

/-- There is no record to take. -/
theorem takeResult_of_none {s : State} (invalid : s.result = none) : takeResult s = reply .empty [] s := by
  simp only [takeResult, invalid]

/-! ### The accrued set -/

/-- What READ_ACCRUED does to the station. -/
theorem exec_readAccrued (s : State) :
    exec .readAccrued s = .next (localCommand (fun s => reply .ok [sixFlags s.accrued] s) s) := rfl

/-- What CLEAR_ACCRUED does to the station. -/
theorem exec_clearAccrued (s : State) :
    exec .clearAccrued s =
      .next (localCommand (fun s => reply .accepted [sixFlags s.accrued] { s with accrued := 0 }) s) := rfl

/-- The end of an entry's operation combines its flags into the accrued set (R147). -/
theorem endEntry_accrued (e : Entry) (s : State) :
    (endEntry e s).accrued = s.accrued ||| accruedOf e.isWrite e.gathered := rfl

/-- The end of an upkeep operation does too (R116, R147). -/
theorem endUpkeep_accrued {s : State} {op : UpkeepOp} (inProgress : s.upkeep = some op) :
    (endUpkeep s).accrued = s.accrued ||| accruedOf false op.flags := by
  simp only [endUpkeep, inProgress]

end Sys2Proof.Machine

namespace Sys2Proof.Proofs

open Sys2Proof.Machine

/-- Settles O24: TAKE RESULT by whether the record is valid, and its image byte by byte, where the bytes of the mode, the holder
and the status each go by the cases of their own field. -/
theorem takeResult : Obligations.TakeResult := by
  unfold Obligations.TakeResult
  refine ⟨fun s r ready valid => ?_, fun s ready invalid => ?_, fun s settle => ?_, fun r => ?_⟩
  · rw [exec_takeResult, localCommand_ready ready, takeResult_of_some valid]
  · rw [exec_takeResult, localCommand_ready ready, takeResult_of_none invalid]
  · rw [exec_takeResult, localCommand_settle settle]
  · obtain ⟨tag, kind, mode, outcome, page, holder, status, words⟩ := r
    simp only [resultImage, Kind.byte, countByte, List.cons_append, List.nil_append, List.cons.injEq, and_true,
      true_and]
    refine ⟨?mode, ?holder, ?status⟩
    case mode => rcases mode with _ | _ | _ <;> rfl
    case holder => cases holder <;> rfl
    case status => rcases status with _ | _ | _ <;> rfl

/-- Settles O26: both commands by what they do in REJOIN, RUN and SETTLE, and an operation's flags joined to the empty set. -/
theorem accruedCommands : Obligations.AccruedCommands := by
  unfold Obligations.AccruedCommands
  refine ⟨fun s ready => ⟨?read, ?clear⟩, fun s settle => ⟨?readSettle, ?clearSettle⟩,
    fun s e empty => ?entry, fun s op empty inProgress => ?upkeep⟩
  case read => rw [exec_readAccrued, localCommand_ready ready, sixFlags]
  case clear => rw [exec_clearAccrued, localCommand_ready ready, sixFlags]
  case readSettle => rw [exec_readAccrued, localCommand_settle settle]
  case clearSettle => rw [exec_clearAccrued, localCommand_settle settle]
  case entry =>
    rw [endEntry_accrued, empty]
    exact BitVec.zero_or
  case upkeep =>
    rw [endUpkeep_accrued inProgress, empty]
    exact BitVec.zero_or

end Sys2Proof.Proofs
end

section
/-! RESUME (R154, R158) and DISCARD (R155): what each does by the top fault record, and the room the queue needs for the writes put
back. -/

namespace Sys2Proof.Machine

/-! ### Writes put back -/

/-- Writes for which the queue has no room stay in their record. -/
theorem putBackAll_of_no_room {writes : List HeldWrite} {s : State} (rest : List FaultRecord)
    (exceeds : Config.queueCapacity < s.queue.length + writes.length) :
    putBackAll writes rest s = reply .full [] s :=
  if_pos exceeds

/-- Where there is room they go ahead of the queue, and their record is removed. -/
theorem putBackAll_of_room {writes : List HeldWrite} {s : State} (rest : List FaultRecord)
    (room : s.queue.length + writes.length ≤ Config.queueCapacity) :
    putBackAll writes rest s = reply .accepted [countByte writes.length]
      { s with queue := writes.map putBack ++ s.queue, faults := rest } :=
  if_neg (Nat.not_lt.mpr room)

/-! ### RESUME -/

/-- What RESUME does to the station. -/
theorem exec_resume (s : State) : exec .resume s = .next (localCommand resume s) := rfl

/-- There is no record to resume from. -/
theorem resume_of_no_record {s : State} (empty : s.faults = []) : resume s = reply .empty [] s := by
  simp only [resume, empty]

/-- A FORMAT record holds no writes to put back. -/
theorem resume_of_format {s : State} {entry : FailingEntry} {field : FailingField} {page : PageId} {offset : Byte}
    {rest : List FaultRecord} (top : s.faults = .format entry field page offset :: rest) :
    resume s = reply .invalid [] s := by
  simp only [resume, top]

/-- The writes of a WRITE-FAILED record are put back, the first ahead of its followers. -/
theorem resume_of_writeFailed {s : State} {cause : Code} {first : HeldWrite} {followers : List HeldWrite}
    {rest : List FaultRecord} (top : s.faults = .writeFailed cause first followers :: rest) :
    resume s = putBackAll (first :: followers) rest s := by
  simp only [resume, top]

/-! ### DISCARD -/

/-- What DISCARD does to the station. -/
theorem exec_discard (s : State) : exec .discard s = .next (localCommand discardTop s) := rfl

/-- There is no record to remove. -/
theorem discardTop_of_no_record {s : State} (empty : s.faults = []) : discardTop s = reply .empty [] s := by
  simp only [discardTop, empty]

/-- A FORMAT record goes without any entry, and the record beneath it is the top again. -/
theorem discardTop_of_format {s : State} {entry : FailingEntry} {field : FailingField} {page : PageId} {offset : Byte}
    {rest : List FaultRecord} (top : s.faults = .format entry field page offset :: rest) :
    discardTop s = reply .accepted [0] { s with faults := rest } := by
  simp only [discardTop, top]

/-- A WRITE-FAILED record goes with its first entry and its followers. -/
theorem discardTop_of_writeFailed {s : State} {cause : Code} {first : HeldWrite} {followers : List HeldWrite}
    {rest : List FaultRecord} (top : s.faults = .writeFailed cause first followers :: rest) :
    discardTop s = reply .accepted [countByte (followers.length + 1)] { s with faults := rest } := by
  simp only [discardTop, top]

end Sys2Proof.Machine

namespace Sys2Proof.Proofs

open Sys2Proof.Machine

/-- Settles O30: RESUME by its tests in R154's order. For a WRITE-FAILED record the last two are whether the queue has room, and the
entries put back are those of R158. -/
theorem resume : Obligations.Resume := by
  unfold Obligations.Resume
  refine ⟨fun s settle => ?settle, fun s ready empty => ?empty, fun s entry field page offset rest ready top => ?format,
    fun s cause first followers ready top => ⟨fun exceeds => ?full, fun room => ?accepted⟩⟩
  case settle => rw [exec_resume, localCommand_settle settle]
  case empty => rw [exec_resume, localCommand_ready ready, resume_of_no_record empty]
  case format => rw [exec_resume, localCommand_ready ready, resume_of_format top]
  case full =>
    have noRoom : Config.queueCapacity < s.queue.length + (first :: followers).length := exceeds
    rw [exec_resume, localCommand_ready ready, resume_of_writeFailed top, putBackAll_of_no_room [] noRoom]
  case accepted =>
    have fits : s.queue.length + (first :: followers).length ≤ Config.queueCapacity := room
    rw [exec_resume, localCommand_ready ready, resume_of_writeFailed top, putBackAll_of_room [] fits]
    rfl

/-- Settles O31: DISCARD by the station's state and the kind of its top record. -/
theorem discard : Obligations.Discard := by
  unfold Obligations.Discard
  refine ⟨fun s settle => ?settle, fun s ready empty => ?empty, fun s entry field page offset rest ready top => ?format,
    fun s cause first followers rest ready top => ?writeFailed⟩
  case settle => rw [exec_discard, localCommand_settle settle]
  case empty => rw [exec_discard, localCommand_ready ready, discardTop_of_no_record empty]
  case format => rw [exec_discard, localCommand_ready ready, discardTop_of_format top]
  case writeFailed => rw [exec_discard, localCommand_ready ready, discardTop_of_writeFailed top, countByte]

end Sys2Proof.Proofs
end

section
/-! IDENTIFY (R174), an unknown code (R172) and READ SLOT (R178): what each does, what a reply at once writes (R169), and the flags
byte of the slot image by its fields (13.6). -/

namespace Sys2Proof.Machine

/-! ### A reply at once -/

/-- A reply at once writes the transaction in progress and nothing else (R169). -/
theorem reply_of_transaction (status : Status) (data : List Byte) {s : State} {t : Transaction} (inProgress : s.txn = some t) :
    reply status data s = { s with txn := some { t with
      taken := true, ready := t.ready ++ [⟨status, data, false⟩], fillerBegun := false } } := by
  simp only [reply, modifyTxn, inProgress, Option.map_some]

/-! ### IDENTIFY and an unknown code -/

/-- Where a command can take effect IDENTIFY is answered, SETTLE included. -/
theorem exec_identify_of_canTake {s : State} (takes : canTake s = true) :
    exec .identify s = .next (reply .ok (identifyData s) s) :=
  congrArg Host.Outcome.next (if_pos takes)

/-- Where a command can take effect a byte that names none is answered UNKNOWN, SETTLE included. -/
theorem exec_unknownCommand_of_canTake {code : Byte} {s : State} (takes : canTake s = true)
    (unlisted : commandCodes.contains code = false) :
    exec (.unknownCommand code) s = .next (reply .unknown [] s) := by
  have answered : (canTake s && !commandCodes.contains code) = true := by rw [takes, unlisted]; rfl
  exact congrArg Host.Outcome.next (if_pos answered)

/-! ### READ SLOT -/

/-- What READ_SLOT does to the station. -/
theorem exec_readSlot (index : Byte) (s : State) : exec (.readSlot index) s = .next (localCommand (readSlot index) s) := rfl

/-- An index that names a slot is answered with the slot's image. -/
theorem readSlot_of_lt {index : Byte} (named : index.toNat < 64) (s : State) :
    readSlot index s = reply .ok (slotImage (s.slot ⟨index.toNat, named⟩)) s :=
  dif_pos named

/-- An index above 63 names no slot. -/
theorem readSlot_of_le {index : Byte} (above : 64 ≤ index.toNat) (s : State) : readSlot index s = reply .invalid [] s :=
  dif_neg (Nat.not_lt.mpr above)

/-- A flag placed in a byte is that byte's bit there, and no other bit of it is set. -/
theorem bitAt_getLsbD {n k : Nat} (position : k < 8) (flag : Bool) : (bitAt n flag).getLsbD k = (flag && k == n) := by
  cases flag with
  | false => simp [bitAt]
  | true =>
    have shifted : (bitAt n true).getLsbD k = true ↔ n ≤ k ∧ k - n = 0 := by simp [bitAt, position]
    rw [Bool.eq_iff_iff, shifted, Bool.true_and, beq_iff_eq]
    omega

/-- Five flags placed from bit 7 down, over a count of two bits, lie side by side: none covers another, and bit 2 is 0. -/
theorem flagsOverCount_eq_append (f7 f6 f5 f4 f3 : Bool) (count : Fin 4) :
    bitAt 7 f7 ||| bitAt 6 f6 ||| bitAt 5 f5 ||| bitAt 4 f4 ||| bitAt 3 f3 ||| BitVec.ofNat 8 count.val =
      BitVec.ofBool f7 ++ BitVec.ofBool f6 ++ BitVec.ofBool f5 ++ BitVec.ofBool f4 ++ BitVec.ofBool f3 ++ 0#1
        ++ BitVec.ofNat 2 count.val := by
  have noHigherBit : ∀ k, 2 ≤ k → count.val.testBit k = false := fun k higher =>
    Nat.testBit_lt_two_pow (count.isLt.trans_le (Nat.pow_le_pow_right two_pos higher))
  refine BitVec.eq_of_getLsbD_eq fun k position => ?_
  simp only [BitVec.getLsbD_or, bitAt_getLsbD position, BitVec.getLsbD_append, BitVec.getLsbD_ofNat, BitVec.getLsbD_ofBool]
  interval_cases k <;> simp [noHigherBit]

end Sys2Proof.Machine

namespace Sys2Proof.Proofs

open Sys2Proof.Machine

/-- Settles O14: IDENTIFY's data byte by byte, the last two by the codes of the station's state and start kind. -/
theorem identifyAndUnknown : Obligations.IdentifyAndUnknown := by
  unfold Obligations.IdentifyAndUnknown
  refine ⟨⟨fun s takes => ?identify, fun code s takes unlisted => ?unknown⟩, fun status data s t inProgress => ?reply⟩
  case identify =>
    calc exec .identify s
      _ = .next (reply .ok (identifyData s) s) := exec_identify_of_canTake takes
      _ = _ := rfl
  case unknown => exact exec_unknownCommand_of_canTake takes unlisted
  case reply => exact reply_of_transaction status data inProgress

/-- Settles O17: READ SLOT by its index, and the slot image byte by byte, where the first goes by the slot's state and the second by
what its flags are bit by bit. -/
theorem readSlot : Obligations.ReadSlot := by
  unfold Obligations.ReadSlot
  refine ⟨fun index s ready => ⟨fun named => ?named, fun above => ?above⟩, fun r => ?image⟩
  case named => rw [exec_readSlot, localCommand_ready ready, readSlot_of_lt named]
  case above => rw [exec_readSlot, localCommand_ready ready, readSlot_of_le above]
  case image =>
    simp only [slotImage, List.cons_append, List.nil_append, List.cons.injEq, and_true]
    refine ⟨?state, ?flags⟩
    case state => cases r.state <;> rfl
    case flags => exact flagsOverCount_eq_append _ _ _ _ _ r.attempts

end Sys2Proof.Proofs
end

section
/-! The notice unit's commands: TAKE CAUSE and RETURN (R181), SET ENABLES, READ LATCHES and CLEAR LATCHES (R182), and what the search
for a cause answers. -/

namespace Sys2Proof.Machine

/-! ### The search for a cause -/

/-- Every latch takes part in the search. -/
theorem mem_inOrder (l : Latch) : l ∈ Latch.inOrder := by
  cases l <;> decide

/-- The priority order goes down the latches' positions, from bit 5 to bit 0. -/
theorem inOrder_pairwise : Latch.inOrder.Pairwise fun before after => after.pos < before.pos := by
  decide

/-- The search finds the latch set and enabled above which none is. -/
theorem firstCause_of_highest {s : State} {l : Latch} (calls : (s.latches &&& s.enables).getLsbD l.pos = true)
    (highest : ∀ l' : Latch, l.pos < l'.pos → (s.latches &&& s.enables).getLsbD l'.pos = false) :
    firstCause s = some l := by
  obtain ⟨before, after, order⟩ := List.append_of_mem (mem_inOrder l)
  obtain ⟨-, -, descends⟩ := List.pairwise_append.mp (order ▸ inOrder_pairwise)
  refine List.find?_eq_some_iff_append.mpr ⟨calls, before, after, order, fun l' earlier => ?_⟩
  have above : l.pos < l'.pos := descends l' earlier l List.mem_cons_self
  rw [highest l' above, Bool.not_false]

/-- With no latch both set and enabled it finds none. -/
theorem firstCause_of_no_cause {s : State} (quiet : s.latches &&& s.enables = 0) : firstCause s = none := by
  simp [firstCause, quiet]

/-! ### TAKE CAUSE and RETURN -/

/-- What TAKE_CAUSE does to the station. -/
theorem exec_takeCause (s : State) : exec .takeCause s = .next (localCommand takeCause s) := rfl

/-- The latch found is named and cleared, and NOTE is silenced. -/
theorem takeCause_of_some {s : State} {l : Latch} (found : firstCause s = some l) :
    takeCause s = reply .accepted [l.cause] { s with latches := s.latches &&& ~~~l.mask, master := false } := by
  simp only [takeCause, found]

/-- Where none is found the cause is NONE. -/
theorem takeCause_of_none {s : State} (noCause : firstCause s = none) : takeCause s = reply .accepted [0] s := by
  simp only [takeCause, noCause]

/-- What RETURN does to the station. -/
theorem exec_returnNotice (s : State) :
    exec .returnNotice s = .next (localCommand (fun s => reply .accepted [] { s with master := true }) s) := rfl

/-- With the master enable set, NOTE goes by the latches and their enables alone (R180). -/
theorem noteAsserted_of_master {s : State} (enabled : s.master = true) :
    noteAsserted s = ((s.latches &&& s.enables) != 0#6) := by
  rw [noteAsserted, enabled, Bool.true_and]

/-! ### SET ENABLES, READ LATCHES and CLEAR LATCHES -/

/-- What SET_ENABLES does to the station. -/
theorem exec_setEnables (enables : Byte) (s : State) :
    exec (.setEnables enables) s = .next (localCommand (setEnables enables) s) := rfl

/-- What READ_LATCHES does to the station. -/
theorem exec_readLatches (s : State) :
    exec .readLatches s = .next (localCommand
      (fun s => reply .accepted [sixFlags s.latches, sixFlags s.enables, bitAt 0 s.master] s) s) := rfl

/-- What CLEAR_LATCHES does to the station. -/
theorem exec_clearLatches (mask : Byte) (s : State) :
    exec (.clearLatches mask) s = .next (localCommand (clearLatches mask) s) := rfl

/-- A flag at position 0 is the byte 0x01 or 0x00. -/
theorem bitAt_zero (flag : Bool) : bitAt 0 flag = if flag then 0x01 else 0x00 := rfl

end Sys2Proof.Machine

namespace Sys2Proof.Proofs

open Sys2Proof.Machine

/-- Settles O27: TAKE CAUSE by what its search finds, and RETURN by the NOTE line once the master enable is set. -/
theorem takeCauseAndReturn : Obligations.TakeCauseAndReturn := by
  unfold Obligations.TakeCauseAndReturn
  refine ⟨fun s ready => ⟨fun l calls highest => ?cause, fun quiet => ?noCause⟩, fun s ready => ⟨?returned, ?note⟩⟩
  case cause =>
    have found : firstCause s = some l := firstCause_of_highest calls highest
    rw [exec_takeCause, localCommand_ready ready, takeCause_of_some found, Latch.mask]
  case noCause =>
    have noCause : firstCause s = none := firstCause_of_no_cause quiet
    rw [exec_takeCause, localCommand_ready ready, takeCause_of_none noCause]
  case returned => rw [exec_returnNotice, localCommand_ready ready]
  case note => exact noteAsserted_of_master rfl

/-- Settles O28: the three commands by what each writes and answers in REJOIN and RUN, the NOTE line under the new enables, and all
five commands in SETTLE. -/
theorem latchCommands : Obligations.LatchCommands := by
  unfold Obligations.LatchCommands
  refine ⟨fun b s ready => ⟨?enables, ?note, ?latches, ?clear⟩,
    fun b s settle => ⟨?takeCause, ?returned, ?setEnables, ?readLatches, ?clearLatches⟩⟩
  case enables => rw [exec_setEnables, localCommand_ready ready, setEnables, sixFlags, latchBits]
  case note => rw [noteAsserted]
  case latches => rw [exec_readLatches, localCommand_ready ready, sixFlags, sixFlags, bitAt_zero]
  case clear => rw [exec_clearLatches, localCommand_ready ready, clearLatches, sixFlags, latchBits]
  case takeCause => rw [exec_takeCause, localCommand_settle settle]
  case returned => rw [exec_returnNotice, localCommand_settle settle]
  case setEnables => rw [exec_setEnables, localCommand_settle settle]
  case readLatches => rw [exec_readLatches, localCommand_settle settle]
  case clearLatches => rw [exec_clearLatches, localCommand_settle settle]

end Sys2Proof.Proofs
end

section
/-! What a command can do to the station, said once: every change the frame engine, the store arbiter, the queue and the local port
make is one of a few guarded moves of the fields the invariants speak of. The invariants are then kept move by move. -/

namespace Sys2Proof.Machine

/-! ### The fields the invariants speak of -/

/-- The fields the invariants speak of, the pin and the queue of waiting commands, and what the arbiter holds but the scrub unit's
request. -/
structure Tracked where
  station  : StationState
  straps   : Straps
  clearing : Bool
  mark     : Bool
  prot     : Bool
  slots    : SlotTable
  store    : Store
  view     : View
  frame    : Option FrameRecord
  lanes    : Arbiter
  queue    : List Entry
  result   : Option ResultRecord
  faults   : List FaultRecord
  pending  : List Instr

/-- The station's own. -/
def State.tracked (s : State) : Tracked :=
  ⟨s.station, s.straps, s.clearing, s.mark, s.prot, s.slots, s.store, s.view, s.frame, { s.arbiter with scrub := none }, s.queue,
    s.result, s.faults, s.pending⟩

/-- A slot write is seen in the slots alone. -/
theorem setSlot_tracked (s : State) (i : SlotIx) (r : Slot) :
    (s.setSlot i r).tracked = { s.tracked with slots := s.slots.set i r } := rfl

/-- The end of an upkeep operation is not seen. -/
@[simp] theorem endUpkeep_tracked (s : State) : (endUpkeep s).tracked = s.tracked := by
  simp [State.tracked]

/-- A latch set is not seen. -/
@[simp] theorem setLatch_tracked (l : Latch) (s : State) : (s.setLatch l).tracked = s.tracked := rfl

/-- A role change reported is not seen. -/
@[simp] theorem reportRole_tracked (b : Bool) (s : State) : (reportRole b s).tracked = s.tracked := by
  cases b <;> rfl

/-- The end of an entry's operation is not seen. -/
@[simp] theorem endEntry_tracked (e : Entry) (s : State) : (endEntry e s).tracked = s.tracked := rfl

/-- A change of the transaction is not seen. -/
@[simp] theorem modifyTxn_tracked (f : Transaction → Transaction) (s : State) : (modifyTxn f s).tracked = s.tracked := rfl

/-- A reply is not seen. -/
@[simp] theorem reply_tracked (status : Status) (data : List Byte) (s : State) : (reply status data s).tracked = s.tracked := rfl

/-- The slots, read off the fields tracked. -/
theorem slots_of_tracked {s t : State} (h : t.tracked = s.tracked) : t.slots = s.slots := congrArg Tracked.slots h

/-! ### What may become of a slot -/

/-- The slot is a copy in question. -/
abbrev Slot.InQuestion (d : Slot) : Prop := d.state = .stale ∨ d.state = .doubt

/-- The slot's recovery is due, or spent until the seek tick. -/
abbrev Slot.Waits (d : Slot) : Prop := d.recoveryDue = true ∨ d.attempts = 3

/-- A slot record `r` may follow a record `d` outside allocation and the start: it is freed or holds its page on, has the fields of
its state where `d` has them, is DOUBT only after DOUBT, and is in question only with its recovery due, or as `d` was. -/
structure Slot.Follows (ms : Bool) (d r : Slot) : Prop where
  page   : r.state = .free ∨ d.state ≠ .free ∧ r.page = d.page
  shaped : d.shaped ms → r.shaped ms
  doubt  : r.state = .doubt → d.state = .doubt
  waits  : r.InQuestion → r.Waits ∨ d.InQuestion ∧ (d.Waits → r.Waits)

/-- A slot may be freed. -/
theorem Slot.follows_freed (ms : Bool) (d : Slot) : d.Follows ms Slot.freed := by
  constructor <;> simp [Slot.freed, Slot.shaped]

/-- A slot's version and check may change in any state. -/
theorem Slot.follows_written (ms : Bool) (d : Slot) (v : Version) (c : Word) :
    d.Follows ms { d with version := v, check := c } := by
  refine ⟨?_, id, id, fun h => Or.inr ⟨h, id⟩⟩
  by_cases h : d.state = .free <;> simp [h]

/-! ### Effects: what the end of a frame or an access does to slots, queue and records -/

/-- One change of a slot, of the station's state or of the queue and the records it leaves; no other tracked field takes part. -/
inductive Effect (s t : State) : Prop
  /-- nothing the invariants speak of -/
  | quiet (seen : t.tracked = s.tracked)
  /-- a slot record follows another -/
  | slot (i : SlotIx) (r : Slot) (follows : (s.slot i).Follows s.straps.ms r)
      (seen : t.tracked = { s.tracked with slots := s.slots.set i r })
  /-- REJOIN ends (R131) -/
  | leftRejoin (rejoin : s.station = .rejoin) (decided : anyDoubt s = false)
      (seen : t.tracked = { s.tracked with station := .run })
  /-- the head changes, but for its kind, and is not put in flight -/
  | headEdited (e e' : Entry) (rest : List Entry) (queued : s.queue = e :: rest) (kind : e'.isWrite = e.isWrite)
      (flight : e'.inFlight = true → e.inFlight = true) (seen : t.tracked = { s.tracked with queue := e' :: rest })
  /-- entries leave the front of the queue -/
  | shortened (q : List Entry) (suffix : q <:+ s.queue) (seen : t.tracked = { s.tracked with queue := q })
  /-- a head other than a WRITE leaves into the result record -/
  | resulted (e : Entry) (rest : List Entry) (result : ResultRecord) (queued : s.queue = e :: rest)
      (other : e.isWrite = false) (seen : t.tracked = { s.tracked with queue := rest, result := some result })
  /-- a WRITE in flight leaves into a fault record, its followers with it -/
  | recorded (e : Entry) (rest left : List Entry) (cause : Code) (first : HeldWrite) (followers : List HeldWrite)
      (queued : s.queue = e :: rest) (flight : e.inFlight = true) (few : followers.length ≤ 2) (part : left.Sublist rest)
      (seen : t.tracked =
        { s.tracked with queue := left, faults := .writeFailed cause first followers :: s.faults })

/-- Any number of effects. -/
abbrev Effects : State → State → Prop := Relation.ReflTransGen Effect

/-- Effects change neither frame nor view, nor the arbiter's accesses, the pins, the store and the commands waiting. -/
structure Undisturbed (s t : State) : Prop where
  frame   : t.frame = s.frame
  view    : t.view = s.view
  lanes   : t.tracked.lanes = s.tracked.lanes
  straps  : t.straps = s.straps
  store   : t.store = s.store
  prot    : t.prot = s.prot
  pending : t.pending = s.pending

/-- One effect disturbs none of them. -/
theorem Effect.undisturbed {s t : State} (h : Effect s t) : Undisturbed s t := by
  cases h <;> rename_i seen <;> exact
    ⟨congrArg Tracked.frame seen, congrArg Tracked.view seen, (congrArg Tracked.lanes seen :), congrArg Tracked.straps seen,
      congrArg Tracked.store seen, congrArg Tracked.prot seen, congrArg Tracked.pending seen⟩

/-- Nor do any number. -/
theorem Effects.undisturbed {s t : State} (h : Effects s t) : Undisturbed s t := by
  induction h with
  | refl => exact ⟨rfl, rfl, rfl, rfl, rfl, rfl, rfl⟩
  | tail _ step ih =>
    have u := step.undisturbed
    exact ⟨u.frame.trans ih.frame, u.view.trans ih.view, u.lanes.trans ih.lanes, u.straps.trans ih.straps,
      u.store.trans ih.store, u.prot.trans ih.prot, u.pending.trans ih.pending⟩

/-- A change that is not seen. -/
theorem Effects.of_seen {s t : State} (seen : t.tracked = s.tracked) : Effects s t := .single (.quiet seen)

/-- Effects, then a change that is not seen. -/
theorem Effects.seen {s t u : State} (h : Effects s t) (seen : u.tracked = t.tracked) : Effects s u := h.tail (.quiet seen)

/-- A change that is not seen, then effects. -/
theorem Effects.after {s t u : State} (h : Effects t u) (seen : t.tracked = s.tracked) : Effects s u := h.head (.quiet seen)

/-- A slot written with a record that may follow. -/
theorem setSlot_effects {s : State} {i : SlotIx} {r : Slot} (follows : (s.slot i).Follows s.straps.ms r) :
    Effects s (s.setSlot i r) := .single (.slot i r follows (setSlot_tracked s i r))

/-! ### The changes of a slot -/

/-- A slot freed. -/
theorem freeSlot_effects (i : SlotIx) (s : State) : Effects s (freeSlot i s) := by
  refine (setSlot_effects (i := i) (Slot.follows_freed _ _)).seen ?_
  unfold freeSlot
  dsimp only
  split
  · split
    · exact endUpkeep_tracked _
    · rfl
  · rfl

/-- A slot that holds a page goes STALE behind a partner. -/
theorem becomeStale_effects {i : SlotIx} {s : State} (partner : Option StationNo) (held : (s.slot i).state ≠ .free)
    (known : (s.slot i).shaped s.straps.ms → partner.isSome = true) : Effects s (becomeStale i partner s) :=
  setSlot_effects
    { page := Or.inr ⟨held, rfl⟩
      shaped := fun h => by
        have := known h
        obtain ⟨-, page, -⟩ := h
        simp [Slot.shaped, page held, this]
      doubt := by simp
      waits := by simp [Slot.InQuestion, Slot.Waits] }

/-- A slot that holds a page becomes PRIMARY. -/
theorem becomePrimary_effects {i : SlotIx} {s : State} (partner : Option StationNo) (damaged : Bool)
    (held : (s.slot i).state ≠ .free) : Effects s (becomePrimary i partner damaged s) :=
  setSlot_effects
    { page := Or.inr ⟨held, rfl⟩
      shaped := fun h => by
        obtain ⟨-, page, -⟩ := h
        simp [Slot.shaped, page held]
      doubt := by simp
      waits := by simp [Slot.InQuestion, Slot.Waits] }

/-- A slot that holds a page becomes MIRROR. -/
theorem becomeMirror_effects {i : SlotIx} {s : State} (partner : StationNo) (held : (s.slot i).state ≠ .free) :
    Effects s (becomeMirror i partner s) :=
  setSlot_effects
    { page := Or.inr ⟨held, rfl⟩
      shaped := fun h => by
        obtain ⟨-, page, -⟩ := h
        simp [Slot.shaped, page held]
      doubt := by simp
      waits := by simp [Slot.InQuestion, Slot.Waits] }

/-- A PRIMARY slot changes its partner, its marks and its attempts, seek due only without a partner under MS. -/
theorem primary_follows {ms : Bool} {d r : Slot} (primary : d.state = .primary) (state : r.state = .primary)
    (page : r.page = d.page) (seek : (d.seekDue = true → d.partner = none ∧ ms = true) →
      r.seekDue = true → r.partner = none ∧ ms = true) : d.Follows ms r where
  page := Or.inr ⟨by simp [primary], page⟩
  shaped := fun h => by
    obtain ⟨-, paged, -, -, -, due⟩ := h
    simpa [Slot.shaped, state, page, paged (by simp [primary])] using seek fun h => (due h).2
  doubt := by simp [state]
  waits := by simp [state, Slot.InQuestion]

/-- A PRIMARY slot loses its partner. -/
theorem clearPartner_effects {i : SlotIx} {s : State} (primary : (s.slot i).state = .primary) :
    Effects s (clearPartner i s) :=
  setSlot_effects (primary_follows primary primary rfl fun _ h => ⟨rfl, h⟩)

/-- A PRIMARY slot gains a partner. -/
theorem gainPartner_effects {i : SlotIx} {s : State} (partner : StationNo) (primary : (s.slot i).state = .primary) :
    Effects s (gainPartner i partner s) :=
  setSlot_effects (primary_follows primary primary rfl (by simp))

/-- Seek due of a PRIMARY slot is cleared. -/
theorem clearSeek_effects {i : SlotIx} {s : State} (primary : (s.slot i).state = .primary) : Effects s (clearSeek i s) :=
  setSlot_effects (primary_follows primary primary rfl (by simp))

/-- A PRIMARY slot is marked damaged. -/
theorem markDamaged_effects {i : SlotIx} {s : State} (primary : (s.slot i).state = .primary) :
    Effects s (markDamaged i s) := by
  refine setSlot_effects ?_
  split
  · exact primary_follows primary primary rfl id
  · exact primary_follows primary primary rfl id

/-- A PRIMARY slot is repaired. -/
theorem repaired_effects {i : SlotIx} {s : State} (primary : (s.slot i).state = .primary) : Effects s (repaired i s) :=
  setSlot_effects (primary_follows primary primary rfl id)

/-- A slot that holds a page changes its attempts, and waits on for its recovery where it did. -/
theorem tried_follows {ms : Bool} {d : Slot} (held : d.state ≠ .free) (attempts : Fin 4) (due : Bool)
    (waits : d.Waits → due = true ∨ attempts = 3) : d.Follows ms { d with attempts := attempts, recoveryDue := due } where
  page := Or.inr ⟨held, rfl⟩
  shaped := fun h => by
    obtain ⟨-, rest⟩ := h
    exact ⟨fun free => absurd free held, rest⟩
  doubt := id
  waits := fun h => Or.inr ⟨h, waits⟩

/-- A failed recovery frame. -/
theorem failRecovery_effects {i : SlotIx} {s : State} (held : (s.slot i).state ≠ .free) : Effects s (failRecovery i s) := by
  unfold failRecovery
  dsimp only
  split
  · next h0 => exact setSlot_effects (tried_follows held 1 _ (by simp [h0, Slot.Waits]))
  · split
    · next h1 => exact setSlot_effects (tried_follows held 2 _ (by simp [h1, Slot.Waits]))
    · exact (setSlot_effects (tried_follows held 3 false (by simp))).seen (endUpkeep_tracked _)

/-- A RESYNC that finds no holder. -/
theorem spendRecovery_effects {i : SlotIx} {s : State} (held : (s.slot i).state ≠ .free) : Effects s (spendRecovery i s) :=
  (setSlot_effects (tried_follows held 3 false (by simp))).seen (endUpkeep_tracked _)

/-! ### The entry in flight -/

/-- The entry in flight changes, but for its kind and its flight. -/
theorem modifyCurrent_effects {f : Entry → Entry} (s : State) (kind : ∀ e, (f e).isWrite = e.isWrite)
    (flight : ∀ e, (f e).inFlight = true → e.inFlight = true) : Effects s (modifyCurrent f s) := by
  unfold modifyCurrent
  split
  · exact Effects.of_seen rfl
  · cases hq : s.queue with
    | nil => exact Effects.of_seen (by simp [State.tracked, hq])
    | cons e rest => exact .single (.headEdited e (f e) rest hq (kind e) (flight e) rfl)

/-- A flag added. -/
theorem addFlag_effects (f : Flag) (s : State) : Effects s (addFlag f s) := by
  unfold addFlag
  split
  · exact .refl
  · dsimp only
    split
    · refine (modifyCurrent_effects _ (fun e => ?_) fun e => ?_).after ?_
      · rfl
      · exact id
      · rfl
    · exact Effects.of_seen rfl

/-- A flag added on a condition. -/
theorem addFlagIf_effects (b : Bool) (f : Flag) (s : State) : Effects s (addFlagIf b f s) := by
  cases b
  · exact .refl
  · exact addFlag_effects f s

/-- An entry gives up its CLAIMING slot. -/
theorem freeClaim_effects (e : Entry) (s : State) : Effects s (freeClaim e s) := by
  unfold freeClaim
  split
  · split
    · exact setSlot_effects (Slot.follows_freed _ _)
    · exact .refl
  · exact .refl

/-- The entry given up by ABANDON is discarded. -/
theorem discardAbandoned_effects (granted : Bool) (s : State) : Effects s (discardAbandoned granted s) := by
  unfold discardAbandoned
  split
  · exact .refl
  · dsimp only
    split
    · exact Effects.of_seen rfl
    · exact (freeClaim_effects _ _).after rfl

/-- Giving up a CLAIMING slot is seen in the slots alone, whatever becomes of queue and records. -/
theorem freeClaim_tracked (e : Entry) {s u : State} (slots : u.slots = s.slots) :
    (freeClaim e u).tracked = { u.tracked with slots := (freeClaim e s).slots } := by
  unfold freeClaim
  split
  · rw [slot_congr slots]
    split
    · simp [State.setSlot, State.tracked, slots]
    · simp [State.tracked, slots]
  · simp [State.tracked, slots]

/-- The head leaves the queue, completed or failed: a WRITE only from flight. -/
theorem headEnds_effects {s : State} {e e' : Entry} {rest : List Entry} (queued : s.queue = e' :: rest)
    (body : e'.body = e.body) (flight : e.isWrite = true → e'.inFlight = true) (code : Code) (holder : Option StationNo)
    (status : Option Bool) (words : List Word) : Effects s (headEnds e rest code holder status words s) := by
  by_cases hw : e.isWrite = true
  · obtain ⟨⟨hqueue, hresult, -, hfaults⟩, -⟩ := headEnds_write (s := s) rest code holder status words hw
    cases hb : e.body with
    | read p o n => simp [Entry.isWrite, hb, EntryBody.kind] at hw
    | claim p m i => simp [Entry.isWrite, hb, EntryBody.kind] at hw
    | release p => simp [Entry.isWrite, hb, EntryBody.kind] at hw
    | write p o ws =>
      refine .single (.recorded e' rest (withoutFollowers p rest) code e.asHeld (followersIn p rest) queued (flight hw) ?_ ?_ ?_)
      · simp [followersIn]
      · exact List.eraseP_sublist.trans List.eraseP_sublist
      · simp [headEnds, hb, formRecord, takeFollowers_two, pushFault, Entry.asHeld, State.tracked]
  · have hw' : e.isWrite = false := by simpa using hw
    have other : e'.isWrite = false := by simpa [Entry.isWrite, body] using hw'
    have ended : headEnds e rest code holder status words s = fillResult e code holder status words
        (if code = .granted then endEntry e { s with queue := rest } else freeClaim e (endEntry e { s with queue := rest })) := by
      cases hb : e.body with
      | write p o ws => simp [Entry.isWrite, hb, EntryBody.kind] at hw
      | read p o n => simp [headEnds, hb]
      | claim p m i => simp [headEnds, hb]
      | release p => simp [headEnds, hb]
    rw [ended]
    split
    · exact .single (.resulted e' rest _ queued other rfl)
    · have kept : (freeClaim e s).queue = s.queue := freeClaim_keeps (·.queue) (fun _ _ _ => rfl) e s
      refine (freeClaim_effects e s).tail (.resulted e' rest
        ⟨e.tag, e.body.kind, e.body.mode, code, e.body.page, holder, status, words⟩ (kept.trans queued) other ?seen)
      have left := freeClaim_tracked e (s := s) (u := endEntry e { s with queue := rest }) rfl
      have here := freeClaim_tracked e (s := s) (u := s) rfl
      have filled : ∀ u, (fillResult e code holder status words u).tracked = { u.tracked with
          result := some ⟨e.tag, e.body.kind, e.body.mode, code, e.body.page, holder, status, words⟩ } := fun _ => rfl
      rw [filled, left, here]
      rfl

/-- The entry in flight completes or fails finally. -/
theorem completeEntry_effects (code : Code) (holder : Option StationNo) (status : Option Bool) (words : List Word)
    (s : State) : Effects s (completeEntry code holder status words s) := by
  unfold completeEntry
  split
  · exact discardAbandoned_effects _ s
  · split
    · exact .refl
    · next e rest queued =>
      split
      · next flight => exact headEnds_effects queued rfl (fun _ => flight) code holder status words
      · exact .refl

/-- The WRITE in flight completes APPLIED. -/
theorem completeApplied_effects (s : State) : Effects s (completeApplied s) := by
  unfold completeApplied
  split
  · exact discardAbandoned_effects _ s
  · split
    · exact .refl
    · next e rest queued =>
      split
      · exact .single (.shortened rest (queued ▸ List.suffix_cons e rest) rfl)
      · exact .refl

/-- The entry stays at the head. -/
theorem keepEntry_effects (s : State) : Effects s (keepEntry s) := by
  unfold keepEntry
  split
  · exact discardAbandoned_effects _ s
  · exact modifyCurrent_effects s (fun _ => rfl) (by simp)

/-- A try counts one attempt. -/
theorem countAttempt_effects (cause : Code) (s : State) : Effects s (countAttempt cause s) := by
  unfold countAttempt
  split
  · exact discardAbandoned_effects _ s
  · split
    · exact .refl
    · next e rest queued =>
      split
      · exact .refl
      · next flight =>
        have flying : e.inFlight = true := by simpa using flight
        split
        · exact .single (.headEdited e { e with attempts := 1, inFlight := false } rest queued rfl (by simp) rfl)
        · split
          · exact .single (.headEdited e { e with attempts := 2, inFlight := false } rest queued rfl (by simp) rfl)
          · exact headEnds_effects (e := { e with attempts := 3, inFlight := false }) queued rfl (fun _ => flying) _ _ _ _

/-- A head other than a WRITE is settled without a frame. -/
theorem settleWithoutFrame_effects {s : State} (code : Code) (status : Option Bool) (words : List Word)
    (other : ∀ e, s.queue.head? = some e → e.isWrite = false) : Effects s (settleWithoutFrame code status words s) := by
  unfold settleWithoutFrame
  split
  · exact .refl
  · next e rest queued =>
    have hw : e.isWrite = false := other e (by simp [queued])
    dsimp only
    refine (headEnds_effects (e' := e) ?_ ?_ (fun h => ?_) _ _ _ _).after ?_
    · exact queued
    · rfl
    · exact absurd (hw.symm.trans h) (by decide)
    · rfl

end Sys2Proof.Machine
end

section
/-! The end of a frame and the end of an access, as effects. -/

namespace Sys2Proof.Machine

/-! ### The closing of a frame -/

/-- A change of the slot of record, where there is one. -/
theorem onSlotOfRecord_effects {r : FrameRecord} {f : SlotIx → State → State} {s : State}
    (change : ∀ i, r.slot = some i → Effects s (f i s)) : Effects s (onSlotOfRecord r f s) := by
  unfold onSlotOfRecord
  split
  · next i held => exact change i held
  · exact .refl

/-- The slot of an upkeep operation stands in the state asked for. -/
theorem upkeepSlot_state {st : SlotState} {s : State} {i : SlotIx} (found : upkeepSlot st s = some i) :
    (s.slot i).state = st := by
  unfold upkeepSlot at found
  split at found
  · split at found
    · next stands =>
      obtain rfl := Option.some.inj found
      exact stands
    · cases found
  · cases found

/-- A change of that slot, where it stands so. -/
theorem onUpkeepSlot_effects {st : SlotState} {f : SlotIx → State → State} {s : State}
    (change : ∀ i, (s.slot i).state = st → Effects s (f i s)) : Effects s (onUpkeepSlot st f s) := by
  unfold onUpkeepSlot
  split
  · next i found => exact change i (upkeepSlot_state found)
  · exact .refl

/-- A failed recovery frame of a slot that holds a page. -/
theorem failTry_effects {st : SlotState} (held : st ≠ .free) (s : State) : Effects s (failTry st s) := by
  unfold failTry
  split
  · next i found => exact failRecovery_effects (upkeepSlot_state found ▸ held)
  · exact .refl

/-- The end of REJOIN. -/
theorem leaveRejoin_effects (s : State) : Effects s (leaveRejoin s) := by
  unfold leaveRejoin
  split
  · next h => exact .single (.leftRejoin h.1 h.2 rfl)
  · exact .refl

/-- The decision of a VERIFY. -/
theorem verifyDecides_effects {r : FrameRecord} {i : SlotIx} {s : State} (doubt : (s.slot i).state = .doubt) :
    Effects s (verifyDecides r i s) := by
  have held : (s.slot i).state ≠ .free := by simp [doubt]
  have demoted : ∀ h : StationNo, Effects s (becomeStale i (some h) (addFlag .demoted s)) := fun h =>
    (addFlag_effects _ s).trans (becomeStale_effects _ (by simpa using held) fun _ => rfl)
  unfold verifyDecides
  refine Relation.ReflTransGen.trans ?_ (leaveRejoin_effects _)
  refine Effects.seen ?_ (endUpkeep_tracked _)
  split
  · exact becomePrimary_effects _ _ held
  · split
    · exact demoted _
    · split
      · exact demoted _
      · exact (addFlagIf_effects _ _ s).trans (becomePrimary_effects _ _ (by simpa using held))

/-- The originator's side of a VERIFY. -/
theorem closeVerifyOriginator_effects (r : FrameRecord) (s : State) : Effects s (closeVerifyOriginator r s) := by
  have decides : Effects s (onUpkeepSlot .doubt (verifyDecides r) s) :=
    onUpkeepSlot_effects fun _ doubt => verifyDecides_effects doubt
  have fails : ∀ u, Effects u (failTry .doubt u) := failTry_effects (by decide)
  unfold closeVerifyOriginator
  split
  · exact fails s
  · split
    · split
      · exact (addFlag_effects _ s).trans (fails _)
      · exact decides
    · split
      · exact decides
      · exact fails s

/-- The filling mirror's side of a VERIFY. -/
theorem closeVerifyMirror_effects (r : FrameRecord) (i : SlotIx) (s : State) : Effects s (closeVerifyMirror r i s) := by
  unfold closeVerifyMirror
  dsimp only
  split
  · next h =>
    have mirror := h.2.2
    split
    · exact (becomePrimary_effects _ _ (by simp [mirror])).seen (reportRole_tracked _ _)
    · split
      · refine (becomeStale_effects _ (by simp [mirror]) fun shaped => ?_).seen (reportRole_tracked _ _)
        exact shaped.2.2.2.1 (Or.inl mirror)
      · exact .refl
  · exact .refl

/-- The originator's side of a RESYNC. -/
theorem closeResyncOriginator_effects (r : FrameRecord) (s : State) : Effects s (closeResyncOriginator r s) := by
  have fails : ∀ u, Effects u (failTry .stale u) := failTry_effects (by decide)
  unfold closeResyncOriginator
  split
  · exact fails s
  · split
    · split
      · exact (addFlag_effects _ s).trans (fails _)
      · exact (addFlag_effects _ s).trans
          (onUpkeepSlot_effects fun _ stale => spendRecovery_effects (stale ▸ by decide))
    · split
      · exact (addFlag_effects _ s).trans
          (onUpkeepSlot_effects fun i _ => (freeSlot_effects i _).seen (endUpkeep_tracked _))
      · split
        · exact fails s
        · split
          · exact onUpkeepSlot_effects fun i stale =>
              (becomeMirror_effects _ (by simp [stale])).seen (endUpkeep_tracked _)
          · exact (addFlag_effects _ s).trans (fails _)

/-- The originator's side of a REPAIR. -/
theorem closeRepairOriginator_effects (r : FrameRecord) (s : State) : Effects s (closeRepairOriginator r s) := by
  have fails : ∀ u, Effects u (failTry .primary u) := failTry_effects (by decide)
  unfold closeRepairOriginator
  split
  · exact fails s
  · split
    · exact Effects.of_seen (endUpkeep_tracked s)
    · split
      · exact fails s
      · split
        · exact fails s
        · split
          · exact onUpkeepSlot_effects fun i primary => (repaired_effects primary).seen (endUpkeep_tracked _)
          · exact (addFlag_effects _ s).trans (fails _)

/-- The CLAIMING slot of the entry in flight stands CLAIMING. -/
theorem claimingSlot_state {s : State} {i : SlotIx} (found : claimingSlot s = some i) : (s.slot i).state = .claiming := by
  unfold claimingSlot at found
  split at found
  · split at found
    · next stands =>
      obtain rfl := Option.some.inj found
      exact stands
    · cases found
  · cases found

/-- A granted CLAIM NEW. -/
theorem grantNew_effects (s : State) : Effects s (grantNew s) := by
  unfold grantNew
  split
  · next i found =>
    exact (becomePrimary_effects _ _ (by simp [claimingSlot_state found])).trans (completeEntry_effects _ _ _ _ _)
  · exact completeEntry_effects _ _ _ _ s

/-- A granted CLAIM ADOPT. -/
theorem grantAdopt_effects (r : FrameRecord) (s : State) : Effects s (grantAdopt r s) := by
  refine Relation.ReflTransGen.trans (onSlotOfRecord_effects fun i _ => ?_) (completeEntry_effects _ _ _ _ _)
  split
  · next stale => exact becomePrimary_effects _ _ (by simp [stale])
  · exact .refl

/-- The originator's side of a CLAIM. -/
theorem closeClaimOriginator_effects (r : FrameRecord) (s : State) : Effects s (closeClaimOriginator r s) := by
  unfold closeClaimOriginator
  split
  · exact countAttempt_effects _ s
  · split
    · exact completeEntry_effects _ _ _ _ s
    · split
      · exact grantAdopt_effects r s
      · split
        · exact grantNew_effects s
        · exact (addFlag_effects _ s).trans (completeEntry_effects _ _ _ _ _)

/-- The originator's page given up. -/
theorem giveUpPage_effects (i : SlotIx) (s : State) : Effects s (giveUpPage i s) := by
  unfold giveUpPage
  dsimp only
  split
  · exact freeSlot_effects i s
  · exact .refl

/-- The originator's side of a RELEASE. -/
theorem closeReleaseOriginator_effects (r : FrameRecord) (s : State) : Effects s (closeReleaseOriginator r s) := by
  have givesUp : ∀ u, Effects u (onSlotOfRecord r giveUpPage u) := fun u =>
    onSlotOfRecord_effects fun i _ => giveUpPage_effects i u
  unfold closeReleaseOriginator
  split
  · exact countAttempt_effects _ s
  · split
    · split
      · exact (givesUp s).trans (completeEntry_effects _ _ _ _ _)
      · exact keepEntry_effects s
    · exact ((addFlagIf_effects _ _ s).trans (givesUp _)).trans (completeEntry_effects _ _ _ _ _)

/-- The other side of a RELEASE. -/
theorem closeReleaseOther_effects (r : FrameRecord) (i : SlotIx) (s : State) : Effects s (closeReleaseOther r i s) := by
  unfold closeReleaseOther
  dsimp only
  split
  · exact .refl
  · split
    · split
      · exact (freeSlot_effects i s).seen (reportRole_tracked _ _)
      · exact .refl
    · split
      · next primary => exact (clearPartner_effects primary).seen (reportRole_tracked _ _)
      · exact .refl

/-- An OFFER that found no mirror. -/
theorem offerFails_effects (s : State) : Effects s (offerFails s) :=
  Effects.seen (onUpkeepSlot_effects fun _ primary => clearSeek_effects primary) (endUpkeep_tracked _)

/-- The originator's side of an OFFER. -/
theorem closeOfferOriginator_effects (r : FrameRecord) (s : State) : Effects s (closeOfferOriginator r s) := by
  unfold closeOfferOriginator
  split
  · exact .refl
  · split
    · exact Effects.of_seen (endUpkeep_tracked s)
    · split
      · exact (addFlag_effects _ s).trans (offerFails_effects _)
      · split
        · exact Effects.seen (onUpkeepSlot_effects fun _ primary => gainPartner_effects _ primary) (endUpkeep_tracked _)
        · exact (addFlag_effects _ s).trans (offerFails_effects _)

/-- The INCOMING slot of a winner is dropped. -/
theorem dropIncoming_effects (r : FrameRecord) (s : State) : Effects s (dropIncoming r s) := by
  unfold dropIncoming
  split
  · split
    · exact (freeSlot_effects _ s).seen (reportRole_tracked _ _)
    · exact .refl
  · exact .refl

/-- The winner's side of an OFFER. -/
theorem closeOfferWinner_effects (r : FrameRecord) (s : State) : Effects s (closeOfferWinner r s) := by
  unfold closeOfferWinner
  split
  · split
    · next h => exact (becomeMirror_effects _ (by simp [h.2])).seen (reportRole_tracked _ _)
    · exact dropIncoming_effects r s
  · exact .refl

/-- A copy at the closing of a WRITE. -/
theorem closeWriteMirror_effects (r : FrameRecord) (i : SlotIx) (s : State) : Effects s (closeWriteMirror r i s) := by
  unfold closeWriteMirror
  dsimp only
  split
  · next h =>
    obtain ⟨-, mirror, -, holder⟩ := h
    have reported : ∀ u : State, (if r.originates then u else reportRole false u).tracked = u.tracked := fun u => by
      split
      · rfl
      · exact reportRole_tracked _ _
    split
    · exact (becomeStale_effects _ (by simp [mirror]) fun _ => holder).seen (reported _)
    · split
      · refine (becomeStale_effects _ (by simp [mirror]) fun shaped => ?_).seen (reported _)
        exact shaped.2.2.2.1 (Or.inl mirror)
      · exact .refl
  · exact .refl

/-- The holder at the closing of a WRITE. -/
theorem closeWriteHolder_effects (r : FrameRecord) (i : SlotIx) (s : State) : Effects s (closeWriteHolder r i s) := by
  unfold closeWriteHolder
  dsimp only
  split
  · next h => exact (clearPartner_effects h.2.2.1).seen (reportRole_tracked _ _)
  · exact .refl

/-- The flags of an APPLIED write. -/
theorem appliedFlags_effects (r : FrameRecord) (s : State) : Effects s (appliedFlags r s) :=
  (addFlagIf_effects _ _ s).trans (addFlagIf_effects _ _ _)

/-- A WRITE settled from its status. -/
theorem settleWrite_effects (st : BusStatus) (s : State) : Effects s (settleWrite st s) := by
  unfold settleWrite
  split
  · exact completeApplied_effects s
  · exact (addFlag_effects _ s).trans (completeEntry_effects _ _ _ _ _)
  · exact (addFlag_effects _ s).trans (completeEntry_effects _ _ _ _ _)
  · exact completeEntry_effects _ _ _ _ s
  · exact countAttempt_effects _ s

/-- The originator's side of a WRITE. -/
theorem closeWriteOriginator_effects (r : FrameRecord) (s : State) : Effects s (closeWriteOriginator r s) := by
  unfold closeWriteOriginator
  split
  · exact countAttempt_effects _ s
  · split
    · exact (addFlag_effects _ s).trans (completeEntry_effects _ _ _ _ _)
    · split
      · refine Relation.ReflTransGen.trans ?_ (settleWrite_effects _ _)
        split
        · exact appliedFlags_effects r s
        · exact .refl
      · exact countAttempt_effects _ s

/-- A READ settled from its status. -/
theorem settleRead_effects (r : FrameRecord) (st : BusStatus) (s : State) : Effects s (settleRead r st s) := by
  unfold settleRead
  split
  · exact completeEntry_effects _ _ _ _ s
  · exact (addFlag_effects _ s).trans (completeEntry_effects _ _ _ _ _)
  · exact completeEntry_effects _ _ _ _ s
  · exact countAttempt_effects _ s

/-- The originator's side of a READ. -/
theorem closeReadOriginator_effects (r : FrameRecord) (s : State) : Effects s (closeReadOriginator r s) := by
  unfold closeReadOriginator
  split
  · exact countAttempt_effects _ s
  · split
    · exact (addFlag_effects _ s).trans (completeEntry_effects _ _ _ _ _)
    · split
      · exact settleRead_effects r _ s
      · exact countAttempt_effects _ s

/-- The originator's side of a closing. -/
theorem closeOriginator_effects (k : Kind) (r : FrameRecord) (s : State) : Effects s (closeOriginator k r s) := by
  cases k with
  | verify => exact closeVerifyOriginator_effects r s
  | resync => exact closeResyncOriginator_effects r s
  | repair => exact closeRepairOriginator_effects r s
  | claim => exact closeClaimOriginator_effects r s
  | release => exact closeReleaseOriginator_effects r s
  | offer => exact closeOfferOriginator_effects r s
  | write => exact closeWriteOriginator_effects r s
  | read => exact closeReadOriginator_effects r s

/-- The slot's side of a closing. -/
theorem closeSlot_effects (k : Kind) (r : FrameRecord) (s : State) : Effects s (closeSlot k r s) := by
  cases k with
  | verify =>
    unfold closeSlot
    dsimp only
    split
    · exact onSlotOfRecord_effects fun i _ => closeVerifyMirror_effects r i s
    · exact .refl
  | release =>
    unfold closeSlot
    dsimp only
    split
    · exact onSlotOfRecord_effects fun i _ => closeReleaseOther_effects r i s
    · exact .refl
  | offer =>
    unfold closeSlot
    dsimp only
    split
    · exact closeOfferWinner_effects r s
    · exact .refl
  | write =>
    unfold closeSlot closeWriteSlot
    refine onSlotOfRecord_effects fun i _ => ?_
    exact (closeWriteMirror_effects r i s).trans (closeWriteHolder_effects r i _)
  | resync => exact .refl
  | repair => exact .refl
  | claim => exact .refl
  | read => exact .refl

/-- A closing. -/
theorem closeFrame_effects (k : Kind) (r : FrameRecord) (s : State) : Effects s (closeFrame k r s) := by
  have slots : Effects s (if r.voidRead then s else closeSlot k r s) := by
    split
    · exact .refl
    · exact closeSlot_effects k r s
  unfold closeFrame
  dsimp only
  split
  · exact slots.trans (closeOriginator_effects k r _)
  · exact slots

/-! ### A frame that does not close -/

/-- A WRITE that breaks off. -/
theorem breakWrite_effects (r : FrameRecord) (c : Code) (s : State) : Effects s (breakWrite r c s) := by
  unfold breakWrite
  split
  · refine Relation.ReflTransGen.trans ?_ (completeApplied_effects _)
    split
    · exact appliedFlags_effects r s
    · exact .refl
  · split
    · exact settleWrite_effects _ s
    · exact countAttempt_effects _ s

/-- A READ that breaks off. -/
theorem breakRead_effects (r : FrameRecord) (c : Code) (s : State) : Effects s (breakRead r c s) := by
  unfold breakRead
  split
  · exact settleRead_effects r _ s
  · exact countAttempt_effects _ s

/-- The operation of a frame that breaks off. -/
theorem breakOperation_effects (op : OpRef) (r : FrameRecord) (c : Code) (s : State) :
    Effects s (breakOperation op r c s) := by
  cases op with
  | entry =>
    unfold breakOperation
    dsimp only
    split
    · exact breakWrite_effects r c s
    · exact breakRead_effects r c s
    · exact countAttempt_effects _ s
  | upkeep k i =>
    cases k with
    | verify => exact failTry_effects (by decide) s
    | resync => exact failTry_effects (by decide) s
    | repair =>
      unfold breakOperation
      dsimp only
      split
      · exact Effects.of_seen (endUpkeep_tracked s)
      · exact failTry_effects (by decide) s
    | offer =>
      unfold breakOperation
      dsimp only
      split
      · exact .refl
      · exact offerFails_effects s
    | claim => exact .refl
    | release => exact .refl
    | write => exact .refl
    | read => exact .refl

/-- A frame that does not close. -/
theorem breakFrame_effects (stuckBus : Bool) (r : FrameRecord) (s : State) : Effects s (breakFrame stuckBus r s) := by
  unfold breakFrame
  dsimp only
  split
  · split
    · exact ((dropIncoming_effects r s).trans (addFlag_effects _ _)).trans (breakOperation_effects _ _ _ _)
    · exact dropIncoming_effects r s
  · exact dropIncoming_effects r s

/-- The end of a frame. -/
theorem frameEffects_effects (how : FrameEnding) (r : FrameRecord) (s : State) : Effects s (frameEffects how r s) := by
  unfold frameEffects
  split
  · exact .refl
  · split
    · exact closeFrame_effects _ r s
    · exact .refl
    · exact breakFrame_effects _ r s
    · exact breakFrame_effects _ r s

/-! ### The end of an access -/

/-- The end of a check step. -/
theorem checkStepEnds_effects (i : SlotIx) (page : Option PageId) (s : State) : Effects s (checkStepEnds i page s) := by
  unfold checkStepEnds
  dsimp only
  split
  · exact .refl
  · split
    · next mirror =>
      refine (becomeStale_effects _ (by simp [mirror]) fun shaped => ?_).seen rfl
      exact shaped.2.2.2.1 (Or.inl mirror)
    · next primary =>
      split
      · exact .refl
      · exact (markDamaged_effects primary).seen rfl
    · exact .refl

/-- The end of a hand-over snapshot. -/
theorem handoverSnapshotEnds_effects (i : SlotIx) (damaged : Bool) (s : State) :
    Effects s (handoverSnapshotEnds i damaged s) := by
  unfold handoverSnapshotEnds
  split
  · exact .refl
  · next e rest queued =>
    split
    · next page offset count read =>
      split
      · refine settleWithoutFrame_effects _ _ _ fun e' head => ?_
        obtain rfl : e = e' := by simpa [queued] using head
        simp [Entry.isWrite, read, EntryBody.kind]
      · exact .refl
    · exact .refl

end Sys2Proof.Machine
end

section
/-! What a command can do, said once: every command but the start, the supply's fall, the ends of SETTLE and of the store's clearing
and the seek tick is a sequence of guarded moves. -/

namespace Sys2Proof.Machine

/-! ### Moves -/

/-- A record of the frame may follow another as a bid's page and slot set aside stay put: nothing is set aside, or all stands as it
was, or the record before stood elsewhere than at the bid byte. -/
abbrev FrameRecord.KeepsBid (r r' : FrameRecord) : Prop :=
  r'.setAside = none ∨ r'.setAside = r.setAside ∧ (r'.page = r.page ∧ r'.point = r.point ∨ r.point ≠ .bid)

/-- One change of the station. -/
inductive Move (s t : State) : Prop
  /-- slots, queue and records, as a frame or an access leaves them -/
  | effect (h : Effect s t)
  /-- the arbiter's requests and the access in progress -/
  | lanes (a : Arbiter) (seen : t.tracked = { s.tracked with lanes := a })
  /-- a write access: words, version and check -/
  | access (i : SlotIx) (offset : Nat) (words : List Word) (v : Version) (c : Word)
      (seen : t.tracked = { s.tracked with
        store := s.store.writeWords i offset words, slots := s.slots.set i { s.slot i with version := v, check := c } })
  /-- the record of the frame -/
  | edited (r r' : FrameRecord) (inFrame : s.frame = some r) (bid : r.KeepsBid r')
      (seen : t.tracked = { s.tracked with frame := some r' })
  /-- a slot is set aside for a bid (R75) -/
  | bidBegun (r r' : FrameRecord) (page : PageId) (inFrame : s.frame = some r) (point : r'.point = .bid)
      (paged : r'.page = some page) (unheld : lookup s page = none)
      (free : ∀ i, r'.setAside = some i → (s.slot i).state = .free)
      (seen : t.tracked = { s.tracked with frame := some r' })
  /-- a bid is won (R6, R75) -/
  | bidWon (r r' : FrameRecord) (i : SlotIx) (page : PageId) (partner : StationNo) (inFrame : s.frame = some r)
      (aside : r.setAside = some i) (paged : r.page = some page) (done : r'.setAside = none)
      (seen : t.tracked = { s.tracked with
        frame := some r'
        slots := s.slots.set i { Slot.freed with state := .incoming, page := some page, partner := some partner } })
  /-- the view, beside the record -/
  | viewed (v : View) (view : v.isInFrame = s.frame.isSome ∨ v.isInFrame = s.view.isInFrame)
      (bus : s.onBus = true ∨ s.view ≠ .waiting) (seen : t.tracked = { s.tracked with view := v })
  /-- a frame begins -/
  | opened (part : Part) (joined : Bool) (bus : s.onBus = true)
      (seen : t.tracked = { s.tracked with view := .inFrame joined, frame := some (FrameRecord.begun part) })
  /-- the frame is dropped -/
  | dropped (v : View) (view : v.isInFrame = false) (inFrame : s.frame.isSome = true)
      (seen : t.tracked = { s.tracked with view := v, frame := none })
  /-- the head is put in flight (R132, R151) -/
  | flown (e : Entry) (rest : List Entry) (queued : s.queue = e :: rest) (unheld : s.faults = [])
      (seen : t.tracked = { s.tracked with queue := { e with inFlight := true } :: rest })
  /-- a FREE slot becomes CLAIMING for a page not held here (R5, R134) -/
  | claimed (i : SlotIx) (page : PageId) (free : (s.slot i).state = .free) (apart : slotSetAside s ≠ some i)
      (unheld : lookup s page = none) (unbid : bidPage s ≠ some page)
      (seen : t.tracked = { s.tracked with
        slots := s.slots.set i { Slot.freed with state := .claiming, page := some page } })
  /-- an entry joins the queue (R133) -/
  | accepted (e : Entry) (room : s.queue.length < Config.queueCapacity) (flight : e.inFlight = false)
      (alone : e.isWrite = false → hasNonWrite s = false ∧ s.result = none)
      (seen : t.tracked = { s.tracked with queue := s.queue ++ [e] })
  /-- the result record is taken (R143) -/
  | taken (seen : t.tracked = { s.tracked with result := none })
  /-- the top fault record goes (R155) -/
  | popped (top : FaultRecord) (rest : List FaultRecord) (listed : s.faults = top :: rest)
      (seen : t.tracked = { s.tracked with faults := rest })
  /-- a failed write is put back with its followers (R154, R156) -/
  | putBack (writes : List HeldWrite) (cause : Code) (first : HeldWrite) (followers : List HeldWrite)
      (rest : List FaultRecord) (listed : s.faults = .writeFailed cause first followers :: rest)
      (room : writes.length + s.queue.length ≤ Config.queueCapacity)
      (seen : t.tracked = { s.tracked with queue := writes.map Machine.putBack ++ s.queue, faults := rest })
  /-- a FORMAT record is pushed over a failed write (R157) -/
  | formatted (entry : FailingEntry) (field : FailingField) (page : PageId) (offset : Byte) (cause : Code)
      (first : HeldWrite) (followers : List HeldWrite) (rest : List FaultRecord)
      (listed : s.faults = .writeFailed cause first followers :: rest)
      (seen : t.tracked = { s.tracked with faults := .format entry field page offset :: s.faults })

/-- Any number of moves. -/
abbrev Moves : State → State → Prop := Relation.ReflTransGen Move

/-- Effects are moves. -/
theorem Effects.moves {s t : State} (h : Effects s t) : Moves s t := by
  induction h with
  | refl => exact .refl
  | tail _ step ih => exact ih.tail (.effect step)

/-- A change that is not seen. -/
theorem Moves.of_seen {s t : State} (seen : t.tracked = s.tracked) : Moves s t := .single (.effect (.quiet seen))

/-- Moves, then a change that is not seen. -/
theorem Moves.seen {s t u : State} (h : Moves s t) (seen : u.tracked = t.tracked) : Moves s u :=
  h.tail (.effect (.quiet seen))

/-- A change that is not seen, then moves. -/
theorem Moves.after {s t u : State} (h : Moves t u) (seen : t.tracked = s.tracked) : Moves s u :=
  h.head (.effect (.quiet seen))

/-- What every move keeps, moves keep. -/
theorem Moves.keep {p : State → Prop} (each : ∀ s t, Move s t → p s → p t) {s t : State} (h : Moves s t) (hs : p s) : p t := by
  induction h with
  | refl => exact hs
  | tail _ step ih => exact each _ _ step ih

/-- No move touches the pin, the straps or the commands waiting. -/
theorem Move.pins {s t : State} (h : Move s t) : t.prot = s.prot ∧ t.straps = s.straps ∧ t.pending = s.pending := by
  cases h with
  | effect h => exact ⟨h.undisturbed.prot, h.undisturbed.straps, h.undisturbed.pending⟩
  | _ =>
    rename_i seen
    exact ⟨congrArg Tracked.prot seen, congrArg Tracked.straps seen, congrArg Tracked.pending seen⟩

/-- Nor does any number of them. -/
theorem Moves.pins {s t : State} (h : Moves s t) : t.prot = s.prot ∧ t.straps = s.straps ∧ t.pending = s.pending :=
  h.keep (p := fun u => u.prot = s.prot ∧ u.straps = s.straps ∧ u.pending = s.pending)
    (fun _ _ step hs => ⟨step.pins.1.trans hs.1, step.pins.2.1.trans hs.2.1, step.pins.2.2.trans hs.2.2⟩) ⟨rfl, rfl, rfl⟩

/-! ### The store arbiter -/

/-- An access makes its change. -/
theorem applyAccess_moves (i : SlotIx) (k : AccessKind) (s : State) : Moves s (applyAccess i k s) := by
  have written : ∀ (offset : Nat) (words : List Word) (v : Version) (c : Word),
      Moves s (State.setSlot { s with store := s.store.writeWords i offset words } i
        { s.slot i with version := v, check := c }) := fun offset words v c =>
    .single (.access i offset words v c rfl)
  cases k with
  | snapshot => exact .refl
  | checkStep => exact .refl
  | wordWrite offset words v => exact written offset words v _
  | pageLoad v words c => exact written 0 words v c
  | zeroFill => exact written 0 zeroPage 0 _

/-- A grant. -/
theorem grant_moves (c : Claimant) (q : Request) (s : State) : Moves s (grant c q s) :=
  (applyAccess_moves q.slot q.kind s).tail (.lanes _ rfl)

/-- Another arbiter. -/
theorem withArbiter_moves (a : Arbiter) (s : State) : Moves s (s.withArbiter a) :=
  .single (.lanes { a with scrub := none } rfl)

/-- A request. -/
theorem request_moves (c : Claimant) (q : Request) (s : State) : Moves s (request c q s) := by
  unfold request
  split
  · exact grant_moves c q s
  · exact withArbiter_moves _ s

/-- The next grant. -/
theorem grantNext_moves (s : State) : Moves s (grantNext s) := by
  unfold grantNext
  split
  · exact .refl
  · exact (withArbiter_moves _ s).trans (grant_moves _ _ _)
  · exact (withArbiter_moves _ s).trans (grant_moves _ _ _)
  · exact (withArbiter_moves _ s).trans (grant_moves _ _ _)
  · exact (withArbiter_moves _ s).trans (grant_moves _ _ _)
  · exact .refl

/-- A claimant's need gone. -/
theorem withdraw_moves (c : Claimant) (s : State) : Moves s (withdraw c s) := withArbiter_moves _ s

/-! ### The local port's parts -/

/-- A page part falls due. -/
theorem partDue_moves (p : PartSpec) (s : State) : Moves s (partDue p s) := by
  unfold partDue
  split
  · exact .of_seen rfl
  · refine (request_moves _ _ _).after ?_
    rfl

/-- The next part falls due. -/
theorem nextPartDue_moves (s : State) : Moves s (nextPartDue s) := by
  unfold nextPartDue
  split
  · exact .refl
  · split
    · exact .refl
    · refine (partDue_moves _ _).after ?_
      rfl

/-- A command that returns page data. -/
theorem startParts_moves (ps : List PartSpec) (s : State) : Moves s (startParts ps s) := by
  refine Moves.seen (t := nextPartDue (modifyTxn (fun t => { t with taken := true, todo := ps }) s)) ?_ rfl
  exact (nextPartDue_moves (modifyTxn _ s)).after rfl

/-- The local port's snapshot ends. -/
theorem portSnapshotEnds_moves (i : SlotIx) (damaged : Bool) (s : State) : Moves s (portSnapshotEnds i damaged s) := by
  unfold portSnapshotEnds
  split
  · exact .refl
  · split
    · exact .refl
    · refine (nextPartDue_moves _).after ?_
      rfl

/-- A byte of a reply part is out. -/
theorem partByteSent_moves (p : ReplyPart) (n : Nat) (t : Transaction) (s : State) : Moves s (partByteSent p n t s) := by
  unfold partByteSent
  dsimp only
  split
  · refine (nextPartDue_moves _).after ?_
    rfl
  · exact .of_seen rfl

/-- A byte is clocked out. -/
theorem clockOut_moves (sckHeld : Bool) (s : State) : Moves s (clockOut sckHeld s) := by
  have sent : ∀ t, Moves s (replyByteSent sckHeld t s) := fun t => by
    unfold replyByteSent
    split
    · exact partByteSent_moves _ _ _ _
    · split
      · exact .of_seen rfl
      · exact partByteSent_moves _ _ _ _
    · exact .of_seen rfl
  unfold clockOut
  split
  · exact .refl
  · split
    · exact (sent _).seen rfl
    · exact .of_seen rfl

/-! ### The record of the frame -/

/-- The record changes elsewhere than in a bid's page and slot. -/
theorem modifyFrame_moves {f : FrameRecord → FrameRecord} (s : State)
    (bid : ∀ r, (f r).setAside = r.setAside ∧ (f r).page = r.page ∧ (f r).point = r.point) : Moves s (modifyFrame f s) := by
  cases hf : s.frame with
  | none => exact .of_seen (by simp [State.tracked, hf])
  | some r =>
    obtain ⟨aside, page, point⟩ := bid r
    exact .single (.edited r (f r) hf (Or.inr ⟨aside, Or.inl ⟨page, point⟩⟩) (by simp [State.tracked, hf]))

/-- Such a change, then moves. -/
theorem Moves.after_modifyFrame {f : FrameRecord → FrameRecord} {s u : State} (h : Moves (modifyFrame f s) u)
    (bid : ∀ r, (f r).setAside = r.setAside ∧ (f r).page = r.page ∧ (f r).point = r.point) : Moves s u :=
  (modifyFrame_moves s bid).trans h

/-- The frame engine acts on the end of its access. -/
theorem frameAccessEnds_moves (i : SlotIx) (k : AccessKind) (s : State) : Moves s (frameAccessEnds i k s) := by
  cases k with
  | snapshot => exact modifyFrame_moves s fun _ => ⟨rfl, rfl, rfl⟩
  | wordWrite offset words v => exact .refl
  | pageLoad v words c => exact .refl
  | zeroFill => exact .refl
  | checkStep => exact .refl

/-- The claimant of an access acts on its end. -/
theorem claimantActs_moves (a : Access) (s : State) : Moves s (claimantActs a s) := by
  unfold claimantActs
  split
  · split
    · exact frameAccessEnds_moves _ _ s
    · exact (handoverSnapshotEnds_effects _ _ s).moves
    · exact portSnapshotEnds_moves _ _ s
    · exact (checkStepEnds_effects _ _ s).moves
  · exact .refl

/-- An access ends. -/
theorem accessEnd_moves (s : State) : Moves s (accessEnd s) := by
  unfold accessEnd
  split
  · exact .refl
  · exact ((withArbiter_moves _ s).trans (claimantActs_moves _ _)).trans (grantNext_moves _)

/-- The stretch for the frame's own access. -/
theorem settle_moves (s : State) : Moves s (settle s) := by
  unfold settle
  split
  · dsimp only
    split
    · exact (accessEnd_moves s).trans (accessEnd_moves _)
    · exact accessEnd_moves s
  · exact .refl

/-! ### The low phase -/

/-- A change of the slot of record, where there is one. -/
theorem onSlotOfRecord_moves {r : FrameRecord} {f : SlotIx → State → State} {s : State}
    (change : ∀ i, Moves s (f i s)) : Moves s (onSlotOfRecord r f s) := by
  unfold onSlotOfRecord
  split
  · exact change _
  · exact .refl

/-- The answer's first bit. -/
theorem answerBegins_moves (k : Kind) (r : FrameRecord) (s : State) : Moves s (answerBegins k r s) := by
  have asks : ∀ k', Moves s (onSlotOfRecord r (fun i => requestForFrame i k') s) := fun k' =>
    onSlotOfRecord_moves fun i => request_moves _ _ s
  have verify : ∀ i, Moves s (verifyHolderBegins i s) := fun i => modifyFrame_moves s fun _ => ⟨rfl, rfl, rfl⟩
  have write : ∀ i, Moves s (writeHolderBegins r i s) := fun i => by
    unfold writeHolderBegins
    dsimp only
    split
    · exact Moves.after_modifyFrame (request_moves _ _ _) fun _ => ⟨rfl, rfl, rfl⟩
    · exact modifyFrame_moves s fun _ => ⟨rfl, rfl, rfl⟩
  have read : ∀ i, Moves s (readHolderBegins r i s) := fun i => by
    unfold readHolderBegins
    split
    · exact modifyFrame_moves s fun _ => ⟨rfl, rfl, rfl⟩
    · exact request_moves _ _ s
  cases k <;> unfold answerBegins <;> dsimp only
  case claim => exact .refl
  case release => exact .refl
  all_goals split
  all_goals first
    | exact .refl
    | exact asks _
    | exact onSlotOfRecord_moves verify
    | exact onSlotOfRecord_moves write
    | exact onSlotOfRecord_moves read

/-- The bid byte begins. -/
theorem bidBegins_moves {s : State} {r : FrameRecord} (inFrame : s.frame = some { r with low := true, pbdHeld := false })
    (bid : r.point = .bid) : Moves s (bidBegins r s) := by
  unfold bidBegins
  split
  · next h =>
    have unheld : ∃ p, r.page = some p ∧ lookup s p = none := by
      cases hp : r.page with
      | none => simp [eligible, hp] at h
      | some p => exact ⟨p, rfl, by simpa [eligible, hp] using (by simpa [eligible, hp] using h : _ ∧ _).2⟩
    obtain ⟨page, paged, unheld⟩ := unheld
    refine .single (.bidBegun _ { r with
      low := true, pbdHeld := false, setAside := firstFree s, bid := bidOf (freeSlots s) s.number } page inFrame bid paged
      unheld (fun i found => ?_) (by simp [State.tracked, inFrame]))
    have free := firstSlot_holds (s := s) (p := fun d => d.state == .free) found
    simpa using free
  · exact .refl

/-- The ACK bit begins. -/
theorem ackBegins_moves (r : FrameRecord) (s : State) : Moves s (ackBegins r s) := by
  unfold ackBegins
  split
  · refine Moves.after_modifyFrame (onSlotOfRecord_moves fun i => ?_) fun _ => ⟨rfl, rfl, rfl⟩
    exact request_moves _ _ _
  · exact .refl

/-- The winner ACK bit begins. -/
theorem winnerAckBegins_moves (r : FrameRecord) (s : State) : Moves s (winnerAckBegins r s) := by
  unfold winnerAckBegins
  split
  · exact .refl
  · split
    · exact Moves.after_modifyFrame (request_moves _ _ _) fun _ => ⟨rfl, rfl, rfl⟩
    · exact .refl

/-- The low phase before an originator's closing. -/
theorem closingBegins_moves (k : Kind) (r : FrameRecord) (s : State) : Moves s (closingBegins k r s) := by
  have load : ∀ st, Moves s (pageLoadBegins st r s) := fun st => by
    unfold pageLoadBegins
    split
    · exact .refl
    · split
      · exact modifyFrame_moves s fun _ => ⟨rfl, rfl, rfl⟩
      · exact Moves.after_modifyFrame (request_moves _ _ _) fun _ => ⟨rfl, rfl, rfl⟩
  have fill : Moves s (zeroFillBegins s) := by
    unfold zeroFillBegins
    split
    · exact .refl
    · split
      · exact modifyFrame_moves s fun _ => ⟨rfl, rfl, rfl⟩
      · exact Moves.after_modifyFrame (request_moves _ _ _) fun _ => ⟨rfl, rfl, rfl⟩
  unfold closingBegins
  split
  · split
    · split
      · exact load _
      · exact .refl
    · split
      · exact load _
      · exact .refl
    · split
      · exact fill
      · exact .refl
    · exact .refl
  · exact .refl

/-- A low phase. -/
theorem lowPhase_moves (s : State) : Moves s (lowPhase s) := by
  unfold lowPhase
  split
  · exact .refl
  · next r inFrame =>
    have low : Moves s (modifyFrame (fun r => { r with low := true, pbdHeld := false }) s) :=
      modifyFrame_moves s fun _ => ⟨rfl, rfl, rfl⟩
    split
    · exact .refl
    · dsimp only
      split
      · exact low
      · split
        · exact low
        · split
          · split
            · exact low.trans (answerBegins_moves _ r _)
            · exact low
          · next bid => exact low.trans (bidBegins_moves (by simp [inFrame]) bid)
          · exact low.trans (ackBegins_moves r _)
          · exact low.trans (winnerAckBegins_moves r _)
          · exact low.trans (closingBegins_moves _ r _)
          · exact low

/-- The stretch before a bit. -/
theorem ready_moves (s : State) : Moves s (ready s) := (lowPhase_moves s).trans (settle_moves _)

end Sys2Proof.Machine
end

section
/-! Bits, closings and commands as moves. -/

namespace Sys2Proof.Machine

/-! ### Contests -/

/-- A demoted slot follows the winner. -/
theorem followWinner_moves (r : FrameRecord) (s : State) : Moves s (followWinner r s) := by
  unfold followWinner
  split
  · refine onSlotOfRecord_moves fun i => ?_
    split
    · next stale =>
      refine (setSlot_effects (s := s) (i := i) (r := { s.slot i with partner := some r.winner })
        { page := Or.inr ⟨by simp [stale], rfl⟩
          shaped := fun h => ?_
          doubt := id
          waits := fun h => Or.inr ⟨h, id⟩ }).moves
      obtain ⟨-, page, -, -, undamaged, seek⟩ := h
      simp [stale] at page undamaged seek
      simp [Slot.shaped, stale, page, undamaged, seek]
    · exact .refl
  · exact .refl

/-- Arbitration lost. -/
theorem loseFrame_moves (s : State) : Moves s (loseFrame s) := by
  have lost : ∀ u, Moves u (loseArbitration u) := fun u => by
    unfold loseArbitration
    split
    · exact .refl
    · dsimp only
      split
      · refine Moves.seen (t := keepEntry (addFlag .arbLost u)) (Effects.moves ?_) rfl
        exact (addFlag_effects _ u).trans (keepEntry_effects _)
      · exact Moves.seen (t := addFlag .arbLost u) (addFlag_effects _ u).moves rfl
  exact Moves.after_modifyFrame (lost _) fun _ => ⟨rfl, rfl, rfl⟩

/-- The loser of the holder byte is demoted. -/
theorem demoteLoser_moves {r : FrameRecord} {i : SlotIx} {s : State} (primary : (s.slot i).state = .primary) :
    Moves s (demoteLoser r i s) := by
  have stale : ∀ u, u.slots = s.slots → Effects u (becomeStale i (some r.winner) u) := fun u same =>
    becomeStale_effects _ (by simp [slot_congr same, primary]) fun _ => rfl
  have demoted : Moves s (reportRole r.participates (becomeStale i (some r.winner)
      (modifyFrame (fun r => { r with demoted := true }) s))) := by
    refine Moves.seen ?_ (reportRole_tracked _ _)
    exact Moves.after_modifyFrame (stale (modifyFrame _ s) rfl).moves fun _ => ⟨rfl, rfl, rfl⟩
  unfold demoteLoser
  dsimp only
  split
  · split
    · exact Moves.seen (demoted.trans (addFlag_effects _ _).moves) (endUpkeep_tracked _)
    · exact demoted.trans (addFlag_effects _ _).moves
  · exact demoted

/-- A contest lost. -/
theorem loseContest_moves (r : FrameRecord) (s : State) : Moves s (loseContest r s) := by
  have request : Moves s (if r.part = .opener then loseFrame s else s) := by
    split
    · exact loseFrame_moves s
    · exact .refl
  unfold loseContest
  split
  · exact request
  · exact request
  · exact request
  · exact request
  · split
    · exact .refl
    · unfold loseHolder
      dsimp only
      split
      · exact modifyFrame_moves s fun _ => ⟨rfl, rfl, rfl⟩
      · refine Moves.after_modifyFrame (onSlotOfRecord_moves fun i => ?_) fun _ => ⟨rfl, rfl, rfl⟩
        split
        · next primary => exact demoteLoser_moves primary
        · exact .refl
  · cases hf : s.frame with
    | none => exact .of_seen (by simp [State.tracked, hf])
    | some q => exact .single (.edited q { q with setAside := none } hf (Or.inl rfl) (by simp [State.tracked, hf]))
  · exact .refl

/-! ### Fields read -/

/-- The record after a field elsewhere than at the bid byte. -/
theorem edited_moves {s t : State} {r r' : FrameRecord} (inFrame : s.frame = some r) (point : r.point ≠ .bid)
    (next : t.frame = some r') (aside : r'.setAside = r.setAside) (seen : t.tracked = { s.tracked with frame := t.frame }) :
    Moves s t :=
  .single (.edited r r' inFrame (Or.inr ⟨aside, Or.inr point⟩) (next ▸ seen))

/-- The same after effects. -/
theorem edited_after {s u t : State} {r r' : FrameRecord} (effects : Effects s u) (inFrame : s.frame = some r)
    (point : r.point ≠ .bid) (next : t.frame = some r') (aside : r'.setAside = r.setAside)
    (seen : t.tracked = { u.tracked with frame := t.frame }) : Moves s t :=
  effects.moves.trans (edited_moves (effects.undisturbed.frame.trans inFrame) point next aside seen)

/-- The bid byte read. -/
theorem bidByteRead_moves {s : State} {r : FrameRecord} (read : Byte) (inFrame : s.frame = some r) :
    Moves s (bidByteRead r read s) := by
  have dropped : winBid r s = s → Moves s (bidByteRead r read s) := fun h => by
    unfold bidByteRead
    rw [h]
    exact .single (.edited r _ inFrame (Or.inl rfl) rfl)
  unfold winBid at dropped
  split at dropped
  · next i p aside paged =>
    unfold bidByteRead winBid
    rw [aside, paged]
    exact .single (.bidWon r { r.fieldDone (if read = 0xFF then .over else .answer) with
      bidByte := read, incoming := some i, setAside := none } i p r.originator inFrame aside paged rfl rfl)
  · exact dropped rfl

/-- A byte read. -/
theorem byteRead_moves (read : Byte) (s : State) : Moves s (byteRead read s) := by
  unfold byteRead
  split
  · exact .refl
  · next r inFrame =>
    split
    case h_1 h => exact edited_moves inFrame (by simp [h]) rfl rfl rfl
    case h_2 h => exact edited_moves inFrame (by simp [h]) rfl rfl rfl
    case h_3 h _ => exact edited_moves inFrame (by simp [h]) rfl rfl rfl
    case h_4 h => exact edited_moves inFrame (by simp [h]) rfl rfl rfl
    case h_5 h _ => exact edited_moves inFrame (by simp [h]) rfl rfl rfl
    case h_6 => exact bidByteRead_moves read inFrame
    case h_7 h _ => exact edited_moves inFrame (by simp [h]) rfl rfl rfl
    case h_8 k h _ =>
      exact edited_after (addFlagIf_effects (answerBad k r (r.answersItself || crc8 r.answer == read)) .answerBad s) inFrame
        (by simp [h]) rfl rfl rfl
    case h_9 => exact .refl

/-- A bit of a byte. -/
theorem byteBit_moves {s : State} {r : FrameRecord} (others : Bool) (inFrame : s.frame = some r) :
    Moves s (byteBit others r s) := by
  have sampled : Moves s (s.withRecord (r.sampled others (drivesBit r s))) :=
    .single (.edited r (r.sampled others (drivesBit r s)) inFrame (Or.inr ⟨rfl, Or.inl ⟨rfl, rfl⟩⟩) rfl)
  have contested : ∀ (b : Bool) (q : FrameRecord) (u : State), Moves u (followWinner q (if b then loseContest q u else u)) := by
    intro b q u
    refine Relation.ReflTransGen.trans ?_ (followWinner_moves q _)
    split
    · exact loseContest_moves q u
    · exact .refl
  unfold byteBit
  dsimp only
  split
  · exact sampled.trans (contested _ _ _)
  · exact (sampled.trans (contested _ _ _)).trans (byteRead_moves _ _)

/-! ### Single bits and closings -/

/-- The changes of a closing. -/
theorem makeClosing_moves (k : Kind) (r : FrameRecord) (s : State) : Moves s (makeClosing k r s) :=
  (closeFrame_effects k r s).moves.trans (modifyFrame_moves _ fun _ => ⟨rfl, rfl, rfl⟩)

/-- A closing leaves a frame in progress. -/
theorem makeClosing_frame (k : Kind) (r : FrameRecord) (s : State) :
    (makeClosing k r s).frame = s.frame.map fun q => { q with closed := true } := by
  simp [makeClosing, (closeFrame_effects k r s).undisturbed.frame]

/-- A bit past the end. -/
theorem pastBit_moves {s : State} {q : FrameRecord} (k : Kind) (r : FrameRecord) (inFrame : s.frame = some q)
    (point : q.point ≠ .bid) : Moves s (pastBit k r s) := by
  have past : ∀ (u : State) (q : FrameRecord), u.frame = some q → q.point ≠ .bid →
      Moves u (modifyFrame (fun r => { r.fieldDone .past with pbdHeld := false }) u) := fun u q h hp =>
    edited_moves (r' := { q.fieldDone .past with pbdHeld := false }) h hp (by simp [h]) rfl rfl
  unfold pastBit
  split
  · refine (makeClosing_moves k r s).trans (past _ { q with closed := true } ?_ point)
    simp [makeClosing_frame, inFrame]
  · exact past s q inFrame point

/-- A MIRROR promoted at the fill bit. -/
theorem promoteAtFill_effects (k : Kind) (r : FrameRecord) (own : Bool) (s : State) :
    Effects s (promoteAtFill k r own s) := by
  unfold promoteAtFill
  split
  · refine onSlotOfRecord_effects fun i _ => ?_
    split
    · next mirror => exact (becomePrimary_effects _ _ (by simp [mirror])).seen (reportRole_tracked _ _)
    · exact .refl
  · exact .refl

/-- The accept bit, where the holder drives it. -/
theorem acceptBit_moves {s : State} {q r : FrameRecord} (own read : Bool) (inFrame : s.frame = some q)
    (point : q.point ≠ .bid) (aside : r.setAside = q.setAside) (drives : own = true → (slotOfRecord r s).state = .primary) :
    Moves s (acceptBit r own read s) := by
  have gained : Effects s (if own then onSlotOfRecord r (fun i s => reportRole false (gainPartner i r.originator s)) s
      else s) := by
    split
    · next h =>
      refine onSlotOfRecord_effects fun i held => ?_
      have primary := drives h
      simp only [slotOfRecord, held] at primary
      exact (gainPartner_effects _ primary).seen (reportRole_tracked _ _)
    · exact .refl
  exact edited_after gained inFrame point rfl aside rfl

/-- A single bit. -/
theorem singleBit_moves {s : State} {r : FrameRecord} (others : Bool) (inFrame : s.frame = some r) :
    Moves s (singleBit others r s) := by
  unfold singleBit
  dsimp only
  split
  case h_1 h =>
    exact edited_after (addFlagIf_effects ((ownBit r s || others) && r.originates) .void s) inFrame (h ▸ by decide) rfl rfl rfl
  case h_2 h => exact edited_moves inFrame (h ▸ by decide) rfl rfl rfl
  case h_3 k h _ =>
    have filled := (promoteAtFill_effects k { r with pbdHeld := ownBit r s } (ownBit r s) s).trans
      (addFlagIf_effects ((ownBit r s || others) && FrameRecord.originates { r with pbdHeld := ownBit r s } && promotes k)
        .takeover _)
    exact edited_after filled inFrame (h ▸ by decide) rfl rfl rfl
  case h_4 h =>
    have h' : r.point = .accept := h
    refine acceptBit_moves _ _ inFrame (by simp [h']) rfl fun drives => ?_
    have drives' : drivesAccept r s = true := by simpa [ownBit, h'] using drives
    simp only [drivesAccept, Bool.and_eq_true, beq_iff_eq] at drives'
    exact drives'.1.2
  case h_5 h => exact edited_moves inFrame (h ▸ by decide) rfl rfl rfl
  case h_6 h => exact edited_moves inFrame (h ▸ by decide) rfl rfl rfl
  case h_7 h => exact edited_moves inFrame (h ▸ by decide) rfl rfl rfl
  case h_8 h => exact edited_moves inFrame (h ▸ by decide) rfl rfl rfl
  case h_9 h => exact edited_moves inFrame (h ▸ by decide) rfl rfl rfl
  case h_10 h _ => exact pastBit_moves _ _ inFrame (h ▸ by decide)
  case h_11 h _ => exact pastBit_moves _ _ inFrame (h ▸ by decide)
  case h_12 => exact .refl

/-- A bit. -/
theorem bitComplete_moves (others : Bool) (s : State) : Moves s (bitComplete others s) := by
  unfold bitComplete
  dsimp only
  split
  · exact ready_moves s
  · next r inFrame =>
    split
    · exact (ready_moves s).trans (byteBit_moves others inFrame)
    · exact (ready_moves s).trans (singleBit_moves others inFrame)

/-- The bits of a byte. -/
theorem byteComplete_moves (others : Byte) (s : State) : Moves s (byteComplete others s) := by
  have bits : ∀ (bs : List Bool) (u : State), Moves u (bs.foldl (fun u b => bitComplete (!b) u) u) := by
    intro bs
    induction bs with
    | nil => exact fun _ => .refl
    | cons b bs ih => exact fun u => (bitComplete_moves _ u).trans (ih _)
  exact bits _ s

/-! ### The end of a frame and the events of a row -/

/-- The frame dropped, into a view of its own or one given. -/
theorem dropped_moves {s : State} {r : FrameRecord} (how : FrameEnding) (v : View) (inFrame : s.frame = some r)
    (view : v.isInFrame = false) {t : State}
    (seen : t.tracked = { (dropFrame r (frameEffects how r s)).tracked with view := v }) : Moves s t := by
  have effects := frameEffects_effects how r s
  refine (effects.moves.trans (withdraw_moves .frame _)).tail (.dropped v view ?_ seen)
  simp [effects.undisturbed.frame, inFrame]

/-- A view after a frame is none in one. -/
theorem viewAfter_isInFrame (v : View) : (viewAfter v).isInFrame = false := by
  unfold viewAfter
  split <;> rfl

/-- The end of a frame. -/
theorem endFrame_moves (how : FrameEnding) (s : State) : Moves s (endFrame how s) := by
  unfold endFrame
  split
  · exact .refl
  · next r inFrame => exact dropped_moves how _ inFrame (viewAfter_isInFrame _) rfl

/-- A closing. -/
theorem closing_moves (s : State) : Moves s (closing s) := by
  unfold closing
  split
  · exact .refl
  · split
    · exact (ready_moves s).trans (endFrame_moves _ _)
    · exact endFrame_moves _ s

/-- An originator begins its closing. -/
theorem beginClosing_moves (s : State) : Moves s (beginClosing s) := by
  unfold beginClosing
  dsimp only
  split
  · split
    · exact (ready_moves s).trans (makeClosing_moves _ _ _)
    · exact .refl
  · exact .refl

/-- A low level between frames. -/
theorem lowLevel_moves (s : State) : Moves s (lowLevel s) := by
  unfold lowLevel
  split
  · split
    all_goals first
      | exact .refl
      | exact .of_seen rfl
  · exact .refl

/-- A frame begins. -/
theorem beginFrame_moves {s : State} (bus : s.onBus = true) (part : Part) (joined : Bool) :
    Moves s (beginFrame part joined s) := .single (.opened part joined bus rfl)

/-- An opening. -/
theorem opening_moves (s : State) : Moves s (opening s) := by
  unfold opening
  split
  · next bus =>
    split
    · exact beginFrame_moves bus _ _
    · exact beginFrame_moves bus _ _
    · exact beginFrame_moves bus _ _
    · exact lowLevel_moves s
    · exact lowLevel_moves s
    · exact endFrame_moves _ s
  · exact .refl

/-- One event of a row. -/
theorem frameEvent_moves (row : BitVec 4) (s : State) (e : FrameEvent) : Moves s (frameEvent row s e) := by
  have inside : ∀ r, Moves s (insideFrame row r s e) := fun r => by
    cases e with
    | opening => exact .refl
    | low => exact lowPhase_moves s
    | closingBegun => exact beginClosing_moves s
    | closing => exact closing_moves s
    | header o =>
      unfold insideFrame headerComplete
      dsimp only
      split
      · split
        · exact byteComplete_moves _ s
        · exact .refl
      · exact .refl
    | byte b =>
      unfold insideFrame
      dsimp only
      split
      · exact byteComplete_moves _ s
      · exact .refl
    | bit b =>
      unfold insideFrame
      dsimp only
      split
      · exact bitComplete_moves _ s
      · exact .refl
  unfold frameEvent
  split
  · exact opening_moves s
  · unfold clockFalls
    split
    · next h => exact (beginFrame_moves h.1 _ _).trans (lowPhase_moves _)
    · exact lowLevel_moves s
  · exact lowLevel_moves s
  · split
    · exact inside _
    · exact .refl

/-- The events of a row. -/
theorem frameEvents_moves (row : BitVec 4) (es : List FrameEvent) (s : State) : Moves s (frameEvents row es s) := by
  induction es generalizing s with
  | nil => exact .refl
  | cons e es ih => exact (frameEvent_moves row s e).trans (ih _)

end Sys2Proof.Machine
end

section
/-! Commands as moves. -/

namespace Sys2Proof.Machine

/-! ### The scheduler -/

/-- The scheduler's head is the queue's, with no fault record to hold it. -/
theorem choose_head {s : State} {e : Entry} (h : choose s = .head e) : s.queue.head? = some e ∧ s.faults = [] := by
  have ready : readyHead s = some e := by
    unfold choose at h
    split at h
    · cases h
    · split at h
      · cases h
      · split at h
        · cases h
        · split at h
          · next e' ready =>
            cases h
            exact ready
          · split at h <;> cases h
  unfold readyHead at ready
  split at ready
  · next held =>
    simp only [Bool.and_eq_true, List.isEmpty_iff] at held
    exact ⟨ready, held.2⟩
  · cases ready

/-- A WRITE is never settled at its hand-over. -/
theorem handOver_settled {e : Entry} {s : State} {code : Code} (h : handOver e s = .settled code) : e.isWrite = false := by
  unfold handOver at h
  split at h
  · cases h
  all_goals
    rename_i body
    simp [Entry.isWrite, body, EntryBody.kind]

/-- A frame opened between frames. -/
theorem drive_moves {s t : State} {op : OpRef} {request : List Byte} (quiet : s.view = .quiet)
    (seen : t.tracked = s.tracked) : Moves s (drive op request t) := by
  have view : t.view = .quiet := (congrArg Tracked.view seen).trans quiet
  exact Moves.after (.single (.viewed .opening (Or.inr (by rw [view]; rfl)) (Or.inr (by simp [view])) rfl)) seen

/-- A frame opened for upkeep work. -/
theorem openUpkeep_moves {s : State} (k : Kind) (i : SlotIx) (quiet : s.view = .quiet) : Moves s (openUpkeep k i s) := by
  refine drive_moves quiet ?_
  unfold beginUpkeep
  split
  · split
    · rfl
    · exact endUpkeep_tracked s
  · rfl

/-- A frame opened for the head. -/
theorem openEntry_moves {s : State} {e : Entry} (fields : List Byte) (quiet : s.view = .quiet) (head : s.queue.head? = some e)
    (unheld : s.faults = []) : Moves s (openEntry e fields s) := by
  obtain ⟨rest, queued⟩ : ∃ rest, s.queue = e :: rest := by
    cases hq : s.queue with
    | nil => simp [hq] at head
    | cons e' rest => exact ⟨rest, by simpa [hq] using head⟩
  have flown : Move s { s with queue := { e with inFlight := true } :: rest } := .flown e rest queued unheld rfl
  refine Relation.ReflTransGen.head flown ?_
  unfold openEntry
  refine drive_moves quiet ?_
  simp [State.tracked, queued]

/-- The scheduler's work within one opportunity. -/
theorem schedule_moves (fuel : Nat) (s : State) (quiet : s.view = .quiet) : Moves s (schedule fuel s) := by
  induction fuel generalizing s with
  | zero => exact .refl
  | succ fuel ih =>
    unfold schedule
    split
    · exact openUpkeep_moves _ _ quiet
    · exact openUpkeep_moves _ _ quiet
    · exact .refl
    · next e chosen =>
      obtain ⟨head, unheld⟩ := choose_head chosen
      split
      · exact openEntry_moves _ quiet head unheld
      · exact request_moves _ _ s
      · next code settled =>
        have effects : Effects s (settleWithoutFrame code none [] s) := settleWithoutFrame_effects code none [] fun e' h => by
          obtain rfl : e = e' := Option.some.inj (head.symm.trans h)
          exact handOver_settled settled
        exact effects.moves.trans (ih _ (effects.undisturbed.view.trans quiet))

/-- An opportunity. -/
theorem frameOpportunity_moves (gap : Nat) (s : State) : Moves s (frameOpportunity gap s) := by
  unfold frameOpportunity
  split
  · next h =>
    dsimp only
    split
    · exact (schedule_moves _ { s with gap := gap } h.2).after rfl
    · exact .of_seen rfl
  · exact .refl

/-- The scrub tick. -/
theorem scrubTick_moves (s : State) : Moves s (scrubTick s) := by
  unfold scrubTick
  split
  · split
    · refine (request_moves _ _ _).after ?_
      rfl
    · exact .refl
  · exact .refl

/-! ### The line unit -/

/-- The quiet that ends WAITING. -/
theorem waitingQuiet_moves (s : State) : Moves s (waitingQuiet s) := by
  unfold waitingQuiet
  split
  · next h => exact .single (.viewed .quiet (Or.inr (by simp [h.2, View.isInFrame])) (Or.inl h.1) rfl)
  · exact .refl

/-- A frame that breaks off. -/
theorem breakOff_moves (cause : BreakCause) (s : State) : Moves s (breakOff cause s) := by
  unfold breakOff
  split
  · exact Moves.seen (t := endFrame .broken s) (endFrame_moves _ s) rfl
  · exact .refl

/-- A frame in progress, if any, is dropped into a view that is not IN FRAME. -/
theorem endFrame_viewed {s t : State} (how : FrameEnding) (v : View) (bus : s.onBus = true) (view : v.isInFrame = false)
    (seen : t.tracked = { (endFrame how s).tracked with view := v }) : Moves s t := by
  cases hf : s.frame with
  | none =>
    have same : endFrame how s = s := by simp [endFrame, hf]
    rw [same] at seen
    exact .single (.viewed v (Or.inl (by simp [hf, view])) (Or.inl bus) seen)
  | some r =>
    have ended : endFrame how s = dropFrame r (frameEffects how r s) := by simp [endFrame, hf]
    rw [ended] at seen
    exact dropped_moves how v hf view seen

/-- A stuck bus. -/
theorem stuckBus_moves (s : State) : Moves s (stuckBus s) := by
  unfold stuckBus
  split
  · next h =>
    have bus : s.onBus = true := by
      simp only [detectsStuck, Bool.and_eq_true] at h
      exact h.1
    exact endFrame_viewed .stuck .stuck bus rfl rfl
  · exact .refl

/-- A stuck bus released. -/
theorem stuckReleased_moves (s : State) : Moves s (stuckReleased s) := by
  unfold stuckReleased
  split
  · next h => exact .single (.viewed .quiet (Or.inr (by rw [h]; rfl)) (Or.inr (by simp [h])) rfl)
  · exact .refl

/-- BUS CLEAR. -/
theorem busClear_moves {s : State} (bus : s.onBus = true) : Moves s (busClear s) := by
  unfold busClear
  split
  · exact .of_seen rfl
  · exact endFrame_viewed .broken .clearing bus rfl rfl

/-- The view a clear ends in. -/
theorem finishClear_view (status : Status) (bothHigh : Bool) (s : State) :
    (finishClear status bothHigh s).view = if bothHigh then .quiet else .stuck := rfl

/-- The end of a bus clear. -/
theorem busClearEnd_moves (run : ClearRun) (s : State) : Moves s (busClearEnd run s) := by
  unfold busClearEnd
  split
  · next h =>
    split
    · refine .single (.viewed _ (Or.inr ?_) (Or.inr (by simp [h])) rfl)
      rw [h, finishClear_view]
      split <;> rfl
    · exact .refl
  · exact .refl

/-! ### Local commands -/

/-- A local command acts only on the bus. -/
theorem localCommand_moves {body : State → State} {s : State} (acts : s.onBus = true → Moves s (body s)) :
    Moves s (localCommand body s) := by
  unfold localCommand
  split
  · exact .refl
  · next takes =>
    split
    · exact .of_seen rfl
    · next settle =>
      refine acts ?_
      have awake : s.station ≠ .retain := by
        intro h
        simp [canTake, h] at takes
      cases hs : s.station <;> simp_all [State.onBus]

/-- A local command that changes nothing the invariants speak of. -/
theorem localCommand_seen {body : State → State} {s : State} (seen : (body s).tracked = s.tracked) :
    Moves s (localCommand body s) :=
  localCommand_moves fun _ => .of_seen seen

/-- A request is accepted. -/
theorem accept_moves {s : State} {body : EntryBody} (room : testFull s = none)
    (alone : body.kind ≠ .write → testBusy s = none) : Moves s (accept body s) := by
  refine Moves.seen (t := { s with queue := s.queue ++ [⟨s.nextTag, body, 0, 0, false⟩] }) (.single ?_) rfl
  refine .accepted ⟨s.nextTag, body, 0, 0, false⟩ ?_ rfl (fun other => ?_) rfl
  · simpa [testFull, queueFull] using room
  · have := alone (by simpa [Entry.isWrite] using other)
    simpa [testBusy] using this

/-- None of the tests holds exactly when none is refused. -/
theorem firstRefusal_none {tests : List (Option Status)} : firstRefusal tests = none ↔ ∀ t ∈ tests, t = none := by
  simp [firstRefusal]

/-- CLAIM. -/
theorem claim_moves (page : PageId) (s : State) : Moves s (claim page s) := by
  unfold claim
  split
  · exact .of_seen rfl
  · next i none found =>
    have tests := firstRefusal_none.mp none
    simp only [List.mem_cons, List.not_mem_nil, or_false, forall_eq_or_imp, forall_eq] at tests
    obtain ⟨full, busy, -, -, held⟩ := tests
    have slot : (s.slot i).state = .free ∧ slotSetAside s ≠ some i := by simpa using List.find?_some found
    have unheld : lookup s page = .none ∧ bidPage s ≠ some page := by simpa [testHeldHere, heldHere] using held
    refine Relation.ReflTransGen.head (b := becomeClaiming i page s) ?_ (accept_moves full fun _ => busy)
    exact .claimed i page slot.1 slot.2 unheld.1 unheld.2 rfl
  · exact .of_seen rfl

/-- ADOPT. -/
theorem adopt_moves (page : PageId) (s : State) : Moves s (adopt page s) := by
  unfold adopt
  split
  · exact .of_seen rfl
  · next none =>
    have tests := firstRefusal_none.mp none
    simp only [List.mem_cons, List.not_mem_nil, or_false, forall_eq_or_imp, forall_eq] at tests
    obtain ⟨full, busy, -⟩ := tests
    exact accept_moves full fun _ => busy

/-- RELEASE. -/
theorem release_moves (page : PageId) (s : State) : Moves s (release page s) := by
  unfold release
  split
  · exact .of_seen rfl
  · next none =>
    have tests := firstRefusal_none.mp none
    simp only [List.mem_cons, List.not_mem_nil, or_false, forall_eq_or_imp, forall_eq] at tests
    obtain ⟨full, busy, -⟩ := tests
    exact accept_moves full fun _ => busy

/-- WRITE. -/
theorem writePage_moves (page : PageId) (offset countLess1 : Byte) (words : List Word) (s : State) :
    Moves s (writePage page offset countLess1 words s) := by
  unfold writePage
  split
  · exact .of_seen rfl
  · next none =>
    have tests := firstRefusal_none.mp none
    simp only [List.mem_cons, List.not_mem_nil, or_false, forall_eq_or_imp, forall_eq] at tests
    exact accept_moves tests.2 fun other => absurd rfl other

/-- READ. -/
theorem readPage_moves (page : PageId) (offset countLess1 : Byte) (s : State) :
    Moves s (readPage page offset countLess1 s) := by
  unfold readPage
  dsimp only
  split
  · exact .of_seen rfl
  · split
    · split
      · exact .of_seen rfl
      · exact startParts_moves _ s
    · split
      · exact .of_seen rfl
      · next none =>
        have tests := firstRefusal_none.mp none
        simp only [List.mem_cons, List.not_mem_nil, or_false, forall_eq_or_imp, forall_eq] at tests
        exact accept_moves tests.1 fun _ => tests.2

/-- TAKE RESULT. -/
theorem takeResult_moves (s : State) : Moves s (takeResult s) := by
  unfold takeResult
  split
  · exact .single (.taken rfl)
  · exact .of_seen rfl

/-- STREAM READ. -/
theorem streamRead_moves (countLess1 : Byte) (s : State) : Moves s (streamRead countLess1 s) := by
  unfold streamRead
  split
  · exact .of_seen rfl
  · refine (startParts_moves _ _).after ?_
    rfl

/-- BLOCK READ. -/
theorem blockRead_moves (c : Byte) (s : State) : Moves s (blockRead c s) := by
  unfold blockRead
  split
  · exact .of_seen rfl
  · refine (startParts_moves _ _).after ?_
    rfl

/-- Entries that give up their CLAIMING slots. -/
theorem removeEntries_effects (es : List Entry) (s : State) : Effects s (removeEntries es s) := by
  induction es generalizing s with
  | nil => exact .refl
  | cons e es ih => exact (freeClaim_effects e s).trans (ih _)

/-- ABANDON. -/
theorem abandon_moves (s : State) : Moves s (abandon s) := by
  have emptied : ∀ (es : List Entry) (u t : State), t.tracked = { u.tracked with queue := [] } →
      Moves u (removeEntries es t) := fun es u t seen =>
    Effects.moves (.head (.shortened [] List.nil_suffix seen) (removeEntries_effects es t))
  refine Moves.seen (t := abandonQueue (withdraw .handover s)) ((withdraw_moves .handover s).trans ?_) rfl
  unfold abandonQueue
  split
  · exact .refl
  · split
    · exact emptied _ _ _ rfl
    · exact emptied _ _ _ rfl

/-- Writes put back from the top record. -/
theorem putBackAll_moves {s : State} {cause : Code} {first : HeldWrite} {followers writes : List HeldWrite}
    {rest : List FaultRecord} (listed : s.faults = .writeFailed cause first followers :: rest) :
    Moves s (putBackAll writes rest s) := by
  unfold putBackAll
  split
  · exact .of_seen rfl
  · next room => exact .single (.putBack writes cause first followers rest listed (by omega) rfl)

/-- RESUME. -/
theorem resume_moves (s : State) : Moves s (resume s) := by
  unfold resume
  split
  · exact .of_seen rfl
  · exact .of_seen rfl
  · next listed => exact putBackAll_moves listed

/-- DISCARD. -/
theorem discardTop_moves (s : State) : Moves s (discardTop s) := by
  unfold discardTop
  split
  · exact .of_seen rfl
  · next listed => exact .single (.popped _ _ listed rfl)
  · next listed => exact .single (.popped _ _ listed rfl)

/-- REWRITE. -/
theorem rewrite_moves (s : State) : Moves s (rewrite s) := by
  unfold rewrite
  split
  · exact .of_seen rfl
  · exact .of_seen rfl
  · next listed =>
    split
    · next entry field _ =>
      exact .single (.formatted entry field s.editPage s.editOffset _ _ _ _ listed rfl)
    · exact putBackAll_moves listed

/-! ### Every command -/

/-- PROT as the command reads it, where it does (log 12). -/
def afterPin (c : Instr) (s : State) : State :=
  match c with
  | .frameOpportunity _ prot | .resyncFrame prot _ | .repairFrame prot _ | .claimFrame prot _ | .offerFrame prot _
  | .writeFrame prot _ | .claim _ prot | .adopt _ prot => readProt prot s
  | _ => s

/-- The commands that are no moves: the supply's fall, the start, the ends of SETTLE and of the store's clearing, the seek tick. -/
inductive SupplyStep (s : State) : State → Prop
  | fell (cause : FallCause) (areas : Nat) : SupplyStep s (supplyFall cause areas s)
  | started (straps : Straps) (selHigh vbatHeld : Bool) (retain : s.station = .retain) :
      SupplyStep s (startUp straps selHigh vbatHeld s)
  | cleared (settle : s.station = .settle) (clearing : s.clearing = true) : SupplyStep s (storeClearingEnd s)
  | settled (settle : s.station = .settle) (clearing : s.clearing = false) : SupplyStep s (settleEnd s)
  | ticked : SupplyStep s (seekTick s)

/-- Every command answers a next state, by moves from the state with its pin read or by one of the supply's steps. -/
theorem exec_cases (c : Instr) (s : State) : ∃ t, exec c s = .next t ∧ (Moves (afterPin c s) t ∨ SupplyStep s t) := by
  cases c
  case supplyFall cause areas => exact ⟨_, rfl, .inr (.fell cause areas)⟩
  case start straps sel vbat =>
    refine ⟨_, rfl, ?_⟩
    split
    · next retain => exact .inr (.started straps sel vbat retain)
    · exact .inl .refl
  case storeClearingEnd =>
    refine ⟨_, rfl, ?_⟩
    by_cases h : s.station = .settle ∧ s.clearing = true
    · exact .inr (.cleared h.1 h.2)
    · rw [storeClearingEnd, if_neg h]
      exact .inl .refl
  case settleEnd =>
    refine ⟨_, rfl, ?_⟩
    by_cases h : s.station = .settle ∧ s.clearing = false
    · exact .inr (.settled h.1 h.2)
    · rw [settleEnd, if_neg h]
      exact .inl .refl
  case seekTick => exact ⟨_, rfl, .inr .ticked⟩
  case waitingQuietReached => exact ⟨_, rfl, .inl (waitingQuiet_moves s)⟩
  case frameOpportunity gap prot => exact ⟨_, rfl, .inl (frameOpportunity_moves gap _)⟩
  case verifyFrame es => exact ⟨_, rfl, .inl (frameEvents_moves _ es _)⟩
  case resyncFrame es => exact ⟨_, rfl, .inl (frameEvents_moves _ es _)⟩
  case repairFrame es => exact ⟨_, rfl, .inl (frameEvents_moves _ es _)⟩
  case claimFrame es => exact ⟨_, rfl, .inl (frameEvents_moves _ es _)⟩
  case releaseFrame es => exact ⟨_, rfl, .inl (frameEvents_moves _ es _)⟩
  case offerFrame es => exact ⟨_, rfl, .inl (frameEvents_moves _ es _)⟩
  case writeFrame es => exact ⟨_, rfl, .inl (frameEvents_moves _ es _)⟩
  case readFrame es => exact ⟨_, rfl, .inl (frameEvents_moves _ es _)⟩
  case undefinedKindFrame es => exact ⟨_, rfl, .inl (frameEvents_moves _ es _)⟩
  case breakOff cause => exact ⟨_, rfl, .inl (breakOff_moves cause s)⟩
  case stuckBus => exact ⟨_, rfl, .inl (stuckBus_moves s)⟩
  case stuckReleased => exact ⟨_, rfl, .inl (stuckReleased_moves s)⟩
  case storeAccessEnd => exact ⟨_, rfl, .inl (accessEnd_moves s)⟩
  case scrubTick => exact ⟨_, rfl, .inl (scrubTick_moves s)⟩
  case transactionStart =>
    refine ⟨_, rfl, .inl (.of_seen ?_)⟩
    unfold transactionStart
    split <;> rfl
  case transactionEnd edge =>
    refine ⟨_, rfl, .inl ?_⟩
    unfold transactionEnd
    split
    · exact .refl
    · split
      · exact .of_seen rfl
      · refine (withdraw_moves .port _).after ?_
        rfl
  case identify =>
    refine ⟨_, rfl, .inl ?_⟩
    split
    · exact .of_seen rfl
    · exact .refl
  case unknownCommand code =>
    refine ⟨_, rfl, .inl ?_⟩
    split
    · exact .of_seen rfl
    · exact .refl
  case claim page prot => exact ⟨_, rfl, .inl (localCommand_moves fun _ => claim_moves page _)⟩
  case adopt page prot => exact ⟨_, rfl, .inl (localCommand_moves fun _ => adopt_moves page _)⟩
  case release page => exact ⟨_, rfl, .inl (localCommand_moves fun _ => release_moves page s)⟩
  case write page offset count words =>
    refine ⟨_, rfl, .inl ?_⟩
    split
    · exact localCommand_moves fun _ => writePage_moves page offset count words s
    · exact .refl
  case read page offset count => exact ⟨_, rfl, .inl (localCommand_moves fun _ => readPage_moves page offset count s)⟩
  case takeResult => exact ⟨_, rfl, .inl (localCommand_moves fun _ => takeResult_moves s)⟩
  case setPointer page word =>
    refine ⟨_, rfl, .inl (localCommand_seen ?_)⟩
    unfold setPointer
    split <;> rfl
  case streamRead count => exact ⟨_, rfl, .inl (localCommand_moves fun _ => streamRead_moves count s)⟩
  case blockRead count => exact ⟨_, rfl, .inl (localCommand_moves fun _ => blockRead_moves count s)⟩
  case readOutcome => exact ⟨_, rfl, .inl (localCommand_seen rfl)⟩
  case readAccrued => exact ⟨_, rfl, .inl (localCommand_seen rfl)⟩
  case clearAccrued => exact ⟨_, rfl, .inl (localCommand_seen rfl)⟩
  case takeCause =>
    refine ⟨_, rfl, .inl (localCommand_seen ?_)⟩
    unfold takeCause
    split <;> rfl
  case returnNotice => exact ⟨_, rfl, .inl (localCommand_seen rfl)⟩
  case setEnables enables => exact ⟨_, rfl, .inl (localCommand_seen rfl)⟩
  case readLatches => exact ⟨_, rfl, .inl (localCommand_seen rfl)⟩
  case clearLatches mask => exact ⟨_, rfl, .inl (localCommand_seen rfl)⟩
  case readFault =>
    refine ⟨_, rfl, .inl (localCommand_seen ?_)⟩
    unfold readFault
    split <;> rfl
  case editFault page offset => exact ⟨_, rfl, .inl (localCommand_seen rfl)⟩
  case resume => exact ⟨_, rfl, .inl (localCommand_moves fun _ => resume_moves s)⟩
  case discard => exact ⟨_, rfl, .inl (localCommand_moves fun _ => discardTop_moves s)⟩
  case rewrite => exact ⟨_, rfl, .inl (localCommand_moves fun _ => rewrite_moves s)⟩
  case readSlot index =>
    refine ⟨_, rfl, .inl (localCommand_seen ?_)⟩
    unfold readSlot
    split <;> rfl
  case queueState => exact ⟨_, rfl, .inl (localCommand_seen rfl)⟩
  case abandon => exact ⟨_, rfl, .inl (localCommand_moves fun _ => abandon_moves s)⟩
  case busClear => exact ⟨_, rfl, .inl (localCommand_moves fun bus => busClear_moves bus)⟩
  case busClearEnd run => exact ⟨_, rfl, .inl (busClearEnd_moves run s)⟩
  case lowLevelBetweenFrames => exact ⟨_, rfl, .inl (lowLevel_moves s)⟩
  case replyByteClockedOut held => exact ⟨_, rfl, .inl (clockOut_moves held s)⟩

end Sys2Proof.Machine
end

section
/-! What every step keeps: each invariant is kept by every effect, every move and every step of the supply. -/

namespace Sys2Proof.Machine

/-! ### From commands to steps -/

/-- What every move and every step of the supply keeps, every step keeps, where it speaks of neither the pin nor the commands
waiting. -/
theorem step_keeps {p : State → Prop} (moves : ∀ s t, Move s t → p s → p t) (supply : ∀ s t, SupplyStep s t → p s → p t)
    (pin : ∀ prot s, p s → p (readProt prot s)) (waiting : ∀ rest s, p s → p (s.withPending rest)) (s t : State) (hs : p s)
    (run : step s = .next t) : p t := by
  unfold step at run
  split at run
  · cases run
    exact hs
  · next c rest _ =>
    obtain ⟨u, answers, how⟩ := exec_cases c (s.withPending rest)
    obtain rfl : u = t := by
      rw [answers] at run
      exact Host.Outcome.next.inj run
    have here : p (s.withPending rest) := waiting rest s hs
    have pinned : p (afterPin c (s.withPending rest)) := by
      cases c <;> first | exact here | exact pin _ _ here
    rcases how with moved | stepped
    · exact moved.keep moves pinned
    · exact supply _ _ stepped here

/-! ### Slots, slot by slot -/

/-- The slots after one slot is written. -/
theorem slot_of_set {s t : State} {i : SlotIx} {r : Slot} (slots : t.slots = s.slots.set i r) (j : SlotIx) :
    t.slot j = if j = i then r else s.slot j := (slot_congr slots j).trans (slot_setSlot s i j r)

/-- What holds of the record written and of the other slots' holds of every slot. -/
theorem slot_of_set_cases {s t : State} {i : SlotIx} {r : Slot} (slots : t.slots = s.slots.set i r) {p : SlotIx → Slot → Prop}
    (there : p i r) (elsewhere : ∀ j, p j (s.slot j)) (j : SlotIx) : p j (t.slot j) := by
  rw [slot_of_set slots j]
  split
  · next same => exact same ▸ there
  · exact elsewhere j

/-- The slots after every slot is changed alike. -/
theorem slot_of_map {s t : State} {f : Slot → Slot} (slots : t.slots = mapSlots f s.slots) (j : SlotIx) :
    t.slot j = f (s.slot j) := (slot_congr slots j).trans (slot_mapSlots s f j)

/-- Every slot of a cleared table is freed. -/
theorem slot_of_cleared {t : State} (slots : t.slots = Vector.replicate 64 Slot.freed) (j : SlotIx) : t.slot j = Slot.freed := by
  simp [State.slot, slots]

/-- The seek tick keeps a slot's state and page. -/
theorem atSeekTick_holds (ms : Bool) (d : Slot) : (d.atSeekTick ms).state = d.state ∧ (d.atSeekTick ms).page = d.page ∧
    (d.atSeekTick ms).partner = d.partner ∧ (d.atSeekTick ms).damaged = d.damaged := by
  unfold Slot.atSeekTick
  dsimp only
  split
  · exact ⟨rfl, rfl, rfl, rfl⟩
  · split <;> exact ⟨rfl, rfl, rfl, rfl⟩

/-- What the start makes of a slot. -/
theorem slot_startUp (straps : Straps) (selHigh vbatHeld : Bool) (s : State) (j : SlotIx) :
    (startUp straps selHigh vbatHeld s).slot j =
      if s.mark && (s.vddGood || vbatHeld) then (s.slot j).warm else (s.slot j).retained := by
  rw [slot_of_map (s := s) (f := if s.mark && (s.vddGood || vbatHeld) then Slot.warm else Slot.retained) rfl]
  split <;> rfl

/-! ### The store -/

/-- The store's form depends on the store alone. -/
theorem StoreOk.of_seen {s t : State} (h : StoreOk s) (store : t.store = s.store) : StoreOk t := by
  unfold StoreOk
  rw [store]
  exact h

/-- Every move keeps the store's form. -/
theorem Move.keeps_store (s t : State) (step : Move s t) (h : StoreOk s) : StoreOk t := by
  cases step with
  | effect e => exact h.of_seen e.undisturbed.store
  | access i offset words v c seen =>
    have written : t.store = s.store.writeWords i offset words := congrArg Tracked.store seen
    unfold StoreOk
    rw [written]
    exact Memory.wf_writeWords _ i offset words h
  | _ =>
    rename_i seen
    exact h.of_seen (congrArg Tracked.store seen)

/-- So does every step of the supply. -/
theorem SupplyStep.keeps_store (s t : State) (step : SupplyStep s t) (h : StoreOk s) : StoreOk t := by
  cases step with
  | fell cause areas =>
    unfold StoreOk supplyFall
    dsimp only
    split
    · exact Memory.wf_clearAreas _ _ h
    · exact h
  | started straps sel vbat retain => exact h
  | cleared settle clearing =>
    rw [storeClearingEnd, if_pos ⟨settle, clearing⟩]
    exact Memory.wf_nil
  | settled settle clearing =>
    rw [settleEnd, if_pos ⟨settle, clearing⟩]
    exact h
  | ticked =>
    unfold seekTick
    split <;> exact h

/-! ### The shape of every slot -/

/-- The shapes depend on the slots and the straps. -/
theorem SlotsOk.of_seen {s t : State} (h : SlotsOk s) (slots : t.slots = s.slots) (straps : t.straps = s.straps) : SlotsOk t := by
  intro i
  rw [slot_congr slots, straps]
  exact h i

/-- A slot written with a shaped record. -/
theorem SlotsOk.set {s t : State} (h : SlotsOk s) {i : SlotIx} {r : Slot} (shaped : r.shaped s.straps.ms)
    (slots : t.slots = s.slots.set i r) (straps : t.straps = s.straps) : SlotsOk t := by
  intro j
  rw [straps]
  exact slot_of_set_cases slots (p := fun _ d => d.shaped s.straps.ms) shaped h j

/-- Every effect keeps the shapes. -/
theorem Effect.keeps_slots {s t : State} (e : Effect s t) (h : SlotsOk s) : SlotsOk t := by
  cases e with
  | slot i r follows seen => exact h.set (follows.shaped (h i)) (congrArg Tracked.slots seen) (congrArg Tracked.straps seen)
  | _ =>
    rename_i seen
    exact h.of_seen (congrArg Tracked.slots seen) (congrArg Tracked.straps seen)

/-- So does every move. -/
theorem Move.keeps_slots (s t : State) (step : Move s t) (h : SlotsOk s) : SlotsOk t := by
  cases step with
  | effect e => exact e.keeps_slots h
  | access i offset words v c seen =>
    exact h.set ((Slot.follows_written s.straps.ms (s.slot i) v c).shaped (h i)) (congrArg Tracked.slots seen)
      (congrArg Tracked.straps seen)
  | bidWon r r' i page partner inFrame aside paged done seen =>
    exact h.set (by simp [Slot.shaped, Slot.freed]) (congrArg Tracked.slots seen) (congrArg Tracked.straps seen)
  | claimed i page free apart unheld unbid seen =>
    exact h.set (by simp [Slot.shaped, Slot.freed]) (congrArg Tracked.slots seen) (congrArg Tracked.straps seen)
  | _ =>
    rename_i seen
    exact h.of_seen (congrArg Tracked.slots seen) (congrArg Tracked.straps seen)

/-- A freed slot is shaped. -/
theorem shaped_freed (ms : Bool) : Slot.freed.shaped ms := by simp [Slot.shaped, Slot.freed]

/-- The volatile fields at their start values keep the shape, whatever the straps become. -/
theorem Slot.shaped.retained {ms : Bool} {d : Slot} (h : d.shaped ms) (ms' : Bool) : d.retained.shaped ms' := by
  obtain ⟨free, paged, claiming, partner, damaged, -⟩ := h
  refine ⟨fun hf => ?_, paged, claiming, partner, damaged, by simp [Slot.retained]⟩
  obtain ⟨page, none, sound, -⟩ := free hf
  exact ⟨page, none, sound, rfl, rfl⟩

/-- The warm start keeps the shape, whatever the straps become. -/
theorem Slot.shaped.warm {ms : Bool} {d : Slot} (h : d.shaped ms) (ms' : Bool) : d.warm.shaped ms' := by
  obtain ⟨-, paged, -, partner, -, -⟩ := h
  cases hd : d.state <;> simp_all [Slot.warm, Slot.shaped, Slot.freed]

/-- The seek tick keeps the shape: a slot is not FREE where its attempts are spent. -/
theorem Slot.shaped.ticked {ms : Bool} {d : Slot} (h : d.shaped ms) : (d.atSeekTick ms).shaped ms := by
  obtain ⟨state, page, partner, damaged⟩ := atSeekTick_holds ms d
  obtain ⟨free, paged, claiming, partnered, sound, seeks⟩ := h
  refine ⟨fun hf => ?_, ?_, ?_, ?_, ?_, ?_⟩
  · rw [state] at hf
    obtain ⟨p, n, dmg, due, zero⟩ := free hf
    simp [Slot.atSeekTick, hf, p, n, dmg, due, zero]
  · rwa [state, page]
  · rwa [state, partner]
  · rwa [state, partner]
  · rwa [state, damaged]
  · have due : (d.atSeekTick ms).seekDue = (d.seekDue || (d.state == .primary && d.partner.isNone && ms)) := by
      unfold Slot.atSeekTick
      dsimp only
      split
      · rfl
      · split <;> rfl
    rw [due, state, partner]
    intro hdue
    rcases Bool.or_eq_true _ _ ▸ hdue with already | now
    · exact seeks already
    · simpa [and_assoc] using now

/-- Every step of the supply keeps the shapes. -/
theorem SupplyStep.keeps_slots (s t : State) (step : SupplyStep s t) (h : SlotsOk s) : SlotsOk t := by
  cases step with
  | fell cause areas =>
    intro i
    rw [slot_of_map (s := s) (f := Slot.retained) rfl]
    exact (h i).retained _
  | started straps sel vbat retain =>
    intro i
    rw [slot_startUp]
    split
    · exact (h i).warm _
    · exact (h i).retained _
  | cleared settle clearing =>
    intro i
    rw [storeClearingEnd, if_pos ⟨settle, clearing⟩, slot_of_cleared rfl]
    exact shaped_freed _
  | settled settle clearing =>
    rw [settleEnd, if_pos ⟨settle, clearing⟩]
    exact h.of_seen rfl rfl
  | ticked =>
    unfold seekTick
    split
    · intro i
      rw [slot_mapSlots]
      exact (h i).ticked
    · exact h

/-! ### One slot for a page -/

/-- A slot record `r` after `d` holds no page that `d` did not. -/
abbrev Slot.Narrows (d r : Slot) : Prop := r.state = .free ∨ d.state ≠ .free ∧ r.page = d.page

/-- A slot that keeps its state and its page. -/
theorem Slot.Narrows.of_eq {d r : Slot} (state : r.state = d.state) (page : r.page = d.page) : d.Narrows r := by
  by_cases free : r.state = .free
  · exact Or.inl free
  · exact Or.inr ⟨state ▸ free, page⟩

/-- A page a narrowed slot holds was held before. -/
theorem Slot.Narrows.held {d r : Slot} (h : d.Narrows r) (held : r.state ≠ .free) : d.state ≠ .free ∧ r.page = d.page :=
  h.resolve_left held

/-- The bid of a frame record, in a later record: given up, or as it was. -/
abbrev FrameRecord.BidStays (r r' : FrameRecord) : Prop := r'.setAside = r.setAside ∧ r'.page = r.page ∧ r'.point = r.point

/-- The page of a bid and the slot it is set aside in. -/
theorem bidPage_some {s : State} {p : PageId} :
    bidPage s = some p ↔ ∃ r, s.frame = some r ∧ r.setAside.isSome = true ∧ r.page = some p := by
  unfold bidPage
  cases s.frame <;> simp

/-- The slot set aside, by the record. -/
theorem slotSetAside_some {s : State} {i : SlotIx} : slotSetAside s = some i ↔ ∃ r, s.frame = some r ∧ r.setAside = some i := by
  unfold slotSetAside
  cases s.frame <;> simp

/-- Slots that hold no new page, and a bid that is given up or stays, keep the pages apart. -/
theorem PagesOk.narrowed {s t : State} (h : PagesOk s) (slots : ∀ i, (s.slot i).Narrows (t.slot i))
    (bid : ∀ r', t.frame = some r' → r'.setAside = none ∨ ∃ r, s.frame = some r ∧ r.BidStays r') : PagesOk t := by
  obtain ⟨apart, aside, unheld, point⟩ := h
  have before : ∀ r' , t.frame = some r' → r'.setAside.isSome = true → ∃ r, s.frame = some r ∧ r.BidStays r' :=
    fun r' inFrame set => (bid r' inFrame).resolve_left (by rintro none; simp [none] at set)
  refine ⟨fun i j p hi hj pi pj => ?_, fun i set => ?_, fun p held => ?_, fun r' inFrame set => ?_⟩
  · obtain ⟨hi', ei⟩ := (slots i).held hi
    obtain ⟨hj', ej⟩ := (slots j).held hj
    exact apart i j p hi' hj' (ei ▸ pi) (ej ▸ pj)
  · obtain ⟨r', inFrame, set⟩ := slotSetAside_some.mp set
    obtain ⟨r, inFrame', same, -⟩ := before r' inFrame (by simp [set])
    have free := aside i (slotSetAside_some.mpr ⟨r, inFrame', same ▸ set⟩)
    exact (slots i).resolve_right fun held => held.1 free
  · obtain ⟨r', inFrame, set, paged⟩ := bidPage_some.mp held
    obtain ⟨r, inFrame', same, page, -⟩ := before r' inFrame set
    have none := lookup_none.mp (unheld p (bidPage_some.mpr ⟨r, inFrame', same ▸ set, page ▸ paged⟩))
    refine lookup_none.mpr fun i hi => ?_
    obtain ⟨hi', e⟩ := (slots i).held hi
    exact e ▸ none i hi'
  · obtain ⟨r, inFrame', same, -, at'⟩ := before r' inFrame set
    exact at'.trans (point r inFrame' (same ▸ set))

/-- The pages depend on the slots and the record. -/
theorem PagesOk.of_seen {s t : State} (h : PagesOk s) (slots : t.slots = s.slots) (frame : t.frame = s.frame) : PagesOk t :=
  h.narrowed (fun i => .of_eq (by rw [slot_congr slots]) (by rw [slot_congr slots]))
    fun r' inFrame => Or.inr ⟨r', frame ▸ inFrame, rfl, rfl, rfl⟩

/-- One slot narrowed. -/
theorem PagesOk.set {s t : State} (h : PagesOk s) {i : SlotIx} {r : Slot} (narrows : (s.slot i).Narrows r)
    (slots : t.slots = s.slots.set i r) (frame : t.frame = s.frame) : PagesOk t :=
  h.narrowed (fun j => slot_of_set_cases slots (p := fun j d => (s.slot j).Narrows d) narrows (fun _ => .of_eq rfl rfl) j)
    fun r' inFrame => Or.inr ⟨r', frame ▸ inFrame, rfl, rfl, rfl⟩

/-- A page that no slot and no other bid holds goes into a slot that is not set aside. -/
theorem PagesOk.fill {s t : State} (h : PagesOk s) {i : SlotIx} {r : Slot} {page : PageId} (paged : r.page = some page)
    (unheld : lookup s page = none) (unbid : bidPage t ≠ some page) (apart : slotSetAside t ≠ some i)
    (slots : t.slots = s.slots.set i r) (bid : t.frame = s.frame ∨ ∀ r', t.frame = some r' → r'.setAside = none) : PagesOk t := by
  obtain ⟨distinct, aside, bidApart, point⟩ := h
  have none := lookup_none.mp unheld
  have before : ∀ r', t.frame = some r' → r'.setAside.isSome = true → s.frame = some r' := fun r' inFrame set =>
    bid.elim (fun same => same ▸ inFrame) fun gone => by simp [gone r' inFrame] at set
  refine ⟨fun j k p hj hk pj pk => ?_, fun j set => ?_, fun p held => ?_, fun r' inFrame set => point r' (before r' inFrame set) set⟩
  · rw [slot_of_set slots] at hj pj hk pk
    split at hj <;> split at hk <;> simp_all
    exact distinct j k p hj hk pj pk
  · have other : j ≠ i := fun same => apart (same ▸ set)
    rw [slot_of_set slots, if_neg other]
    obtain ⟨r', inFrame, set⟩ := slotSetAside_some.mp set
    exact aside j (slotSetAside_some.mpr ⟨r', before r' inFrame (by simp [set]), set⟩)
  · obtain ⟨r', inFrame, set, pagedBid⟩ := bidPage_some.mp held
    have noneBid := lookup_none.mp (bidApart p (bidPage_some.mpr ⟨r', before r' inFrame set, set, pagedBid⟩))
    refine lookup_none.mpr fun j => slot_of_set_cases slots (p := fun _ d => d.state ≠ .free → d.page ≠ some p) ?_ noneBid j
    intro _ same
    exact unbid (held.trans (same.symm.trans paged))

/-- Every effect keeps the pages apart. -/
theorem Effect.keeps_pages {s t : State} (e : Effect s t) (h : PagesOk s) : PagesOk t := by
  cases e with
  | slot i r follows seen => exact h.set follows.page (congrArg Tracked.slots seen) (congrArg Tracked.frame seen)
  | _ =>
    rename_i seen
    exact h.of_seen (congrArg Tracked.slots seen) (congrArg Tracked.frame seen)

/-- So does every move. -/
theorem Move.keeps_pages (s t : State) (step : Move s t) (h : PagesOk s) : PagesOk t := by
  have same : t.slots = s.slots → ∀ i, (s.slot i).Narrows (t.slot i) := fun slots i =>
    .of_eq (by rw [slot_congr slots]) (by rw [slot_congr slots])
  cases step with
  | effect e => exact e.keeps_pages h
  | access i offset words v c seen =>
    exact h.set (Slot.follows_written s.straps.ms (s.slot i) v c).page (congrArg Tracked.slots seen) (congrArg Tracked.frame seen)
  | edited r r' inFrame bid seen =>
    refine h.narrowed (same (congrArg Tracked.slots seen)) fun r'' inFrame' => ?_
    obtain rfl : r' = r'' := Option.some.inj ((congrArg Tracked.frame seen).symm.trans inFrame')
    rcases bid with none | ⟨aside, stays | off⟩
    · exact Or.inl none
    · exact Or.inr ⟨r, inFrame, aside, stays⟩
    · refine Or.inl (aside.trans (Option.eq_none_iff_forall_ne_some.mpr fun i set => off ?_))
      exact h.2.2.2 r inFrame (by simp [set])
  | bidBegun r r' page inFrame point paged unheld free seen =>
    have frame : t.frame = some r' := congrArg Tracked.frame seen
    have slots : t.slots = s.slots := congrArg Tracked.slots seen
    refine ⟨fun i j p => ?_, fun i set => ?_, fun p held => ?_, fun r'' inFrame' _ => ?_⟩
    · rw [slot_congr slots, slot_congr slots]
      exact h.1 i j p
    · obtain ⟨r'', inFrame', set⟩ := slotSetAside_some.mp set
      obtain rfl : r' = r'' := Option.some.inj (frame.symm.trans inFrame')
      rw [slot_congr slots]
      exact free i set
    · obtain ⟨r'', inFrame', -, paged'⟩ := bidPage_some.mp held
      obtain rfl : r' = r'' := Option.some.inj (frame.symm.trans inFrame')
      obtain rfl : page = p := Option.some.inj (paged.symm.trans paged')
      exact (lookup_congr slots page).trans unheld
    · obtain rfl : r' = r'' := Option.some.inj (frame.symm.trans inFrame')
      exact point
  | bidWon r r' i page partner inFrame aside paged done seen =>
    have frame : t.frame = some r' := congrArg Tracked.frame seen
    have ended : ∀ r'', t.frame = some r'' → r''.setAside = none := fun r'' inFrame' => by
      obtain rfl : r' = r'' := Option.some.inj (frame.symm.trans inFrame')
      exact done
    refine h.fill (page := page) rfl (h.2.2.1 page (bidPage_some.mpr ⟨r, inFrame, by simp [aside], paged⟩)) (fun bid => ?_)
      (fun set => ?_) (congrArg Tracked.slots seen) (Or.inr ended)
    · obtain ⟨r'', inFrame', set, -⟩ := bidPage_some.mp bid
      simp [ended r'' inFrame'] at set
    · obtain ⟨r'', inFrame', set⟩ := slotSetAside_some.mp set
      simp [ended r'' inFrame'] at set
  | opened part joined bus seen =>
    have frame : t.frame = some (FrameRecord.begun part) := congrArg Tracked.frame seen
    refine h.narrowed (same (congrArg Tracked.slots seen)) fun r' inFrame' => Or.inl ?_
    obtain rfl : FrameRecord.begun part = r' := Option.some.inj (frame.symm.trans inFrame')
    rfl
  | dropped v view inFrame seen =>
    have frame : t.frame = none := congrArg Tracked.frame seen
    exact h.narrowed (same (congrArg Tracked.slots seen)) fun r' inFrame' => by simp [frame] at inFrame'
  | claimed i page free apart unheld unbid seen =>
    have frame : t.frame = s.frame := congrArg Tracked.frame seen
    refine h.fill (page := page) rfl unheld ?_ ?_ (congrArg Tracked.slots seen) (Or.inl frame)
    · unfold bidPage
      rw [frame]
      exact unbid
    · unfold slotSetAside
      rw [frame]
      exact apart
  | _ =>
    rename_i seen
    exact h.of_seen (congrArg Tracked.slots seen) (congrArg Tracked.frame seen)

/-- The warm start frees a slot or keeps its page. -/
theorem Slot.narrows_warm (d : Slot) : d.Narrows d.warm := by
  cases hd : d.state <;> simp [Slot.Narrows, Slot.warm, hd, Slot.freed]

/-- The start leaves every slot's page, or frees it. -/
theorem narrows_startUp (straps : Straps) (selHigh vbatHeld : Bool) (s : State) (i : SlotIx) :
    (s.slot i).Narrows ((startUp straps selHigh vbatHeld s).slot i) := by
  rw [slot_startUp]
  split
  · exact (s.slot i).narrows_warm
  · exact .of_eq rfl rfl

/-- Every step of the supply keeps the pages apart. -/
theorem SupplyStep.keeps_pages (s t : State) (step : SupplyStep s t) (h : PagesOk s) : PagesOk t := by
  cases step with
  | fell cause areas =>
    refine h.narrowed (fun i => ?_) (by rintro r' ⟨⟩)
    rw [slot_of_map (s := s) (t := supplyFall cause areas s) (f := Slot.retained) rfl]
    exact .of_eq rfl rfl
  | started straps sel vbat retain => exact h.narrowed (narrows_startUp straps sel vbat s) (by rintro r' ⟨⟩)
  | cleared settle clearing =>
    rw [storeClearingEnd, if_pos ⟨settle, clearing⟩]
    refine h.narrowed (fun i => Or.inl ?_) fun r' inFrame => Or.inr ⟨r', inFrame, rfl, rfl, rfl⟩
    rw [slot_of_cleared rfl]
    rfl
  | settled settle clearing =>
    rw [settleEnd, if_pos ⟨settle, clearing⟩]
    exact h.of_seen rfl rfl
  | ticked =>
    unfold seekTick
    split
    · refine h.narrowed (fun i => ?_) fun r' inFrame => Or.inr ⟨r', inFrame, rfl, rfl, rfl⟩
      obtain ⟨state, page, -⟩ := atSeekTick_holds s.straps.ms (s.slot i)
      rw [slot_mapSlots]
      exact .of_eq state page
    · exact h

/-! ### The queue's bounds -/

/-- The bounds depend on the queue and the result record. -/
theorem QueueOk.of_seen {s t : State} (h : QueueOk s) (queue : t.queue = s.queue) (result : t.result = s.result) : QueueOk t := by
  unfold QueueOk
  rw [queue, result]
  exact h

/-- An entry other than a WRITE counts, a WRITE does not. -/
theorem nonWrites_cons (e : Entry) (q : List Entry) : nonWrites (e :: q) = nonWrites q + if e.isWrite then 0 else 1 := by
  cases he : e.isWrite <;> simp [nonWrites, he]

/-- The count over two parts. -/
theorem nonWrites_append (p q : List Entry) : nonWrites (p ++ q) = nonWrites p + nonWrites q := by simp [nonWrites]

/-- The count of a part. -/
theorem nonWrites_sublist {p q : List Entry} (h : p.Sublist q) : nonWrites p ≤ nonWrites q := (h.filter _).length_le

/-- No entry counts exactly where none is other than a WRITE. -/
theorem nonWrites_zero {s : State} : hasNonWrite s = false → nonWrites s.queue = 0 := by
  intro h
  simpa [hasNonWrite, nonWrites] using h

/-- A part of the queue keeps the bounds. -/
theorem QueueOk.part {s t : State} (h : QueueOk s) (part : t.queue.Sublist s.queue) (result : t.result = s.result) : QueueOk t := by
  obtain ⟨room, few, held⟩ := h
  have fewer := nonWrites_sublist part
  refine ⟨part.length_le.trans room, fewer.trans few, fun valid => ?_⟩
  have := held (result ▸ valid)
  omega

/-- The head may change but for its kind. -/
theorem QueueOk.head {s t : State} (h : QueueOk s) {e e' : Entry} {rest : List Entry} (before : s.queue = e :: rest)
    (after : t.queue = e' :: rest) (kind : e'.isWrite = e.isWrite) (result : t.result = s.result) : QueueOk t := by
  obtain ⟨room, few, held⟩ := h
  unfold QueueOk
  rw [after, nonWrites_cons, kind, ← nonWrites_cons, result, ← before]
  refine ⟨?_, few, held⟩
  rw [before] at room
  exact room

/-- Every effect keeps the queue's bounds. -/
theorem Effect.keeps_queue {s t : State} (e : Effect s t) (h : QueueOk s) : QueueOk t := by
  cases e with
  | headEdited e e' rest queued kind flight seen =>
    exact h.head queued (congrArg Tracked.queue seen) kind (congrArg Tracked.result seen)
  | shortened q suffix seen =>
    have queue : t.queue = q := congrArg Tracked.queue seen
    exact h.part (queue ▸ suffix.sublist) (congrArg Tracked.result seen)
  | resulted e rest result queued other seen =>
    have queue : t.queue = rest := congrArg Tracked.queue seen
    obtain ⟨room, few, -⟩ := h
    rw [queued, nonWrites_cons, other] at few
    rw [queued, List.length_cons] at room
    refine ⟨?_, ?_, fun _ => ?_⟩ <;> rw [queue]
    · omega
    · exact (Nat.le_succ _).trans few
    · simpa using few
  | recorded e rest left cause first followers queued flight few part seen =>
    have queue : t.queue = left := congrArg Tracked.queue seen
    exact h.part (by rw [queue, queued]; exact part.cons e) (congrArg Tracked.result seen)
  | _ =>
    rename_i seen
    exact h.of_seen (congrArg Tracked.queue seen) (congrArg Tracked.result seen)

/-- So does every move. -/
theorem Move.keeps_queue (s t : State) (step : Move s t) (h : QueueOk s) : QueueOk t := by
  cases step with
  | effect e => exact e.keeps_queue h
  | flown e rest queued unheld seen =>
    exact h.head queued (congrArg Tracked.queue seen) rfl (congrArg Tracked.result seen)
  | accepted e room flight alone seen =>
    have queue : t.queue = s.queue ++ [e] := congrArg Tracked.queue seen
    have result : t.result = s.result := congrArg Tracked.result seen
    obtain ⟨-, few, held⟩ := h
    unfold QueueOk
    rw [queue, result, nonWrites_append, List.length_append]
    have one : nonWrites [e] = if e.isWrite then 0 else 1 := (nonWrites_cons e []).trans (Nat.zero_add _)
    cases kind : e.isWrite with
    | true =>
      simp only [kind, if_true] at one
      refine ⟨room, by omega, fun valid => ?_⟩
      rw [held valid, one]
    | false =>
      obtain ⟨none, free⟩ := alone kind
      have zero := nonWrites_zero none
      simp only [kind, Bool.false_eq_true, if_false] at one
      exact ⟨room, by omega, by simp [free]⟩
  | taken seen =>
    have queue : t.queue = s.queue := congrArg Tracked.queue seen
    have result : t.result = none := congrArg Tracked.result seen
    obtain ⟨room, few, -⟩ := h
    unfold QueueOk
    rw [queue, result]
    exact ⟨room, few, by simp⟩
  | putBack writes cause first followers rest listed room seen =>
    have queue : t.queue = writes.map Machine.putBack ++ s.queue := congrArg Tracked.queue seen
    have result : t.result = s.result := congrArg Tracked.result seen
    have none : nonWrites (writes.map Machine.putBack) = 0 := by
      simp [nonWrites, Machine.putBack, Entry.isWrite, EntryBody.kind]
    obtain ⟨-, few, held⟩ := h
    unfold QueueOk
    rw [queue, result, nonWrites_append, none, Nat.zero_add]
    refine ⟨?_, few, held⟩
    simpa using room
  | _ =>
    rename_i seen
    exact h.of_seen (congrArg Tracked.queue seen) (congrArg Tracked.result seen)

/-- The queue is empty where the volatile state is lost. -/
theorem queueOk_of_lost {t : State} (queue : t.queue = []) (result : t.result = none) : QueueOk t := by
  unfold QueueOk
  rw [queue, result]
  decide

/-- Every step of the supply keeps the queue's bounds. -/
theorem SupplyStep.keeps_queue (s t : State) (step : SupplyStep s t) (h : QueueOk s) : QueueOk t := by
  cases step with
  | fell cause areas => exact queueOk_of_lost rfl rfl
  | started straps sel vbat retain => exact queueOk_of_lost rfl rfl
  | cleared settle clearing =>
    rw [storeClearingEnd, if_pos ⟨settle, clearing⟩]
    exact h.of_seen rfl rfl
  | settled settle clearing =>
    rw [settleEnd, if_pos ⟨settle, clearing⟩]
    exact h.of_seen rfl rfl
  | ticked =>
    unfold seekTick
    split
    · exact h.of_seen rfl rfl
    · exact h

/-! ### The fault record list -/

/-- The list and the hold depend on the records and the queue. -/
theorem FaultsOk.of_seen {s t : State} (h : FaultsOk s) (faults : t.faults = s.faults) (queue : t.queue = s.queue) : FaultsOk t := by
  unfold FaultsOk FlightOk
  rw [faults, queue]
  exact h

/-- A shaped list under its top record. -/
theorem faultsShaped_tail {top : FaultRecord} {rest : List FaultRecord} (h : faultsShaped (top :: rest) = true) :
    faultsShaped rest = true := by
  unfold faultsShaped at h
  split at h
  · rename_i e; cases e
  · rename_i e; cases e; rfl
  · rename_i e; cases e; exact h
  · cases h

/-- A shaped list with a failed write on top holds that record alone. -/
theorem faultsShaped_write {cause : Code} {first : HeldWrite} {fs : List HeldWrite} {rest : List FaultRecord}
    (h : faultsShaped (.writeFailed cause first fs :: rest) = true) : rest = [] ∧ fs.length ≤ 2 := by
  unfold faultsShaped at h
  split at h
  · rename_i e; cases e
  · rename_i e; cases e; exact ⟨rfl, of_decide_eq_true h⟩
  · rename_i e; cases e
  · cases h

/-- No entry is in flight behind the head. -/
abbrev Quiet (q : List Entry) : Prop := ∀ e ∈ q, e.inFlight = false

/-- The flight of a queue that is cut short keeps to its head. -/
theorem tail_quiet_of_suffix {p q : List Entry} (suffix : p <:+ q) (quiet : Quiet q.tail) : Quiet p.tail := by
  obtain ⟨front, rfl⟩ := suffix
  cases front with
  | nil => exact quiet
  | cons e front => exact fun d hd => quiet d (by simp [List.mem_of_mem_tail hd])

/-- Every effect keeps the fault list and the hold. -/
theorem Effect.keeps_faults {s t : State} (e : Effect s t) (h : FaultsOk s) : FaultsOk t := by
  obtain ⟨shaped, behind, hold⟩ := h
  cases e with
  | headEdited e e' rest queued kind flight seen =>
    have queue : t.queue = e' :: rest := congrArg Tracked.queue seen
    have faults : t.faults = s.faults := congrArg Tracked.faults seen
    unfold FaultsOk FlightOk
    rw [queue, faults]
    rw [queued] at behind hold
    refine ⟨shaped, behind, fun listed d hd => ?_⟩
    rcases List.mem_cons.mp hd with rfl | hd
    · exact Bool.eq_false_iff.mpr fun flying => by simpa [flight flying] using hold listed e (by simp)
    · exact hold listed d (by simp [hd])
  | shortened q suffix seen =>
    have queue : t.queue = q := congrArg Tracked.queue seen
    have faults : t.faults = s.faults := congrArg Tracked.faults seen
    unfold FaultsOk FlightOk
    rw [queue, faults]
    exact ⟨shaped, tail_quiet_of_suffix suffix behind, fun listed d hd => hold listed d (suffix.subset hd)⟩
  | resulted e rest result queued other seen =>
    have queue : t.queue = rest := congrArg Tracked.queue seen
    have faults : t.faults = s.faults := congrArg Tracked.faults seen
    unfold FaultsOk FlightOk
    rw [queue, faults]
    rw [queued] at behind hold
    exact ⟨shaped, fun d hd => behind d (List.mem_of_mem_tail hd), fun listed d hd => hold listed d (by simp [hd])⟩
  | recorded e rest left cause first followers queued flight few part seen =>
    have queue : t.queue = left := congrArg Tracked.queue seen
    have faults : t.faults = .writeFailed cause first followers :: s.faults := congrArg Tracked.faults seen
    have empty : s.faults = [] := Classical.byContradiction fun listed => by
      simpa [flight] using hold listed e (by simp [queued])
    rw [empty] at faults
    unfold FaultsOk FlightOk
    rw [queue, faults]
    rw [queued] at behind
    have quiet : Quiet left := fun d hd => behind d (part.subset hd)
    exact ⟨by simpa [faultsShaped] using few, fun d hd => quiet d (List.mem_of_mem_tail hd), fun _ => quiet⟩
  | _ =>
    rename_i seen
    exact FaultsOk.of_seen ⟨shaped, behind, hold⟩ (congrArg Tracked.faults seen) (congrArg Tracked.queue seen)

/-- So does every move. -/
theorem Move.keeps_faults (s t : State) (step : Move s t) (h : FaultsOk s) : FaultsOk t := by
  obtain ⟨shaped, behind, hold⟩ := h
  cases step with
  | effect e => exact e.keeps_faults ⟨shaped, behind, hold⟩
  | flown e rest queued unheld seen =>
    have queue : t.queue = { e with inFlight := true } :: rest := congrArg Tracked.queue seen
    have faults : t.faults = s.faults := congrArg Tracked.faults seen
    unfold FaultsOk FlightOk
    rw [queue, faults, unheld]
    rw [queued] at behind
    exact ⟨rfl, behind, fun listed => absurd rfl listed⟩
  | accepted e room flight alone seen =>
    have queue : t.queue = s.queue ++ [e] := congrArg Tracked.queue seen
    have faults : t.faults = s.faults := congrArg Tracked.faults seen
    unfold FaultsOk FlightOk
    rw [queue, faults]
    refine ⟨shaped, fun d hd => ?_, fun listed d hd => ?_⟩
    · cases hq : s.queue with
      | nil => simp [hq] at hd
      | cons f q =>
        rw [hq] at hd behind
        rcases List.mem_append.mp (show d ∈ q ++ [e] from hd) with hd | hd
        · exact behind d hd
        · simpa [List.mem_singleton.mp hd] using flight
    · rcases List.mem_append.mp hd with hd | hd
      · exact hold listed d hd
      · simpa [List.mem_singleton.mp hd] using flight
  | popped top rest listed seen =>
    have queue : t.queue = s.queue := congrArg Tracked.queue seen
    have faults : t.faults = rest := congrArg Tracked.faults seen
    unfold FaultsOk FlightOk
    rw [queue, faults]
    rw [listed] at shaped
    exact ⟨faultsShaped_tail shaped, behind, fun _ => hold (by simp [listed])⟩
  | putBack writes cause first followers rest listed room seen =>
    have queue : t.queue = writes.map Machine.putBack ++ s.queue := congrArg Tracked.queue seen
    have faults : t.faults = rest := congrArg Tracked.faults seen
    have quiet : Quiet (writes.map Machine.putBack ++ s.queue) := fun d hd => by
      rcases List.mem_append.mp hd with hd | hd
      · obtain ⟨w, -, rfl⟩ := List.mem_map.mp hd
        rfl
      · exact hold (by simp [listed]) d hd
    unfold FaultsOk FlightOk
    rw [queue, faults]
    rw [listed] at shaped
    exact ⟨faultsShaped_tail shaped, fun d hd => quiet d (List.mem_of_mem_tail hd), fun _ => quiet⟩
  | formatted entry field page offset cause first followers rest listed seen =>
    have queue : t.queue = s.queue := congrArg Tracked.queue seen
    have faults : t.faults = .format entry field page offset :: s.faults := congrArg Tracked.faults seen
    unfold FaultsOk FlightOk
    rw [queue, faults]
    refine ⟨?_, behind, fun _ => hold (by simp [listed])⟩
    rw [listed] at shaped ⊢
    obtain ⟨rfl, few⟩ := faultsShaped_write shaped
    simpa [faultsShaped] using few
  | _ =>
    rename_i seen
    exact FaultsOk.of_seen ⟨shaped, behind, hold⟩ (congrArg Tracked.faults seen) (congrArg Tracked.queue seen)

/-- No record is left where the volatile state is lost. -/
theorem faultsOk_of_lost {t : State} (faults : t.faults = []) (queue : t.queue = []) : FaultsOk t := by
  unfold FaultsOk FlightOk
  rw [faults, queue]
  decide

/-- Every step of the supply keeps the fault list and the hold. -/
theorem SupplyStep.keeps_faults (s t : State) (step : SupplyStep s t) (h : FaultsOk s) : FaultsOk t := by
  cases step with
  | fell cause areas => exact faultsOk_of_lost rfl rfl
  | started straps sel vbat retain => exact faultsOk_of_lost rfl rfl
  | cleared settle clearing =>
    rw [storeClearingEnd, if_pos ⟨settle, clearing⟩]
    exact h.of_seen rfl rfl
  | settled settle clearing =>
    rw [settleEnd, if_pos ⟨settle, clearing⟩]
    exact h.of_seen rfl rfl
  | ticked =>
    unfold seekTick
    split
    · exact h.of_seen rfl rfl
    · exact h

/-! ### The station state, the slots and the mark -/

/-- The station state beside slots that are DOUBT only where one was. -/
theorem StationOk.narrowed {s t : State} (h : StationOk s) (station : t.station = s.station) (mark : t.mark = s.mark)
    (clearing : t.clearing = s.clearing) (slots : ∀ i, (t.slot i).state = .doubt → (s.slot i).state = .doubt) : StationOk t := by
  obtain ⟨run, retain, settle, bus⟩ := h
  unfold StationOk State.onBus
  rw [station, mark, clearing]
  refine ⟨fun here => ?_, retain, settle, bus⟩
  exact anyDoubt_false.mpr fun i doubt => anyDoubt_false.mp (run here) i (slots i doubt)

/-- The station state with one slot written. -/
theorem StationOk.set {s t : State} (h : StationOk s) (station : t.station = s.station) (mark : t.mark = s.mark)
    (clearing : t.clearing = s.clearing) {i : SlotIx} {r : Slot} (doubt : r.state = .doubt → (s.slot i).state = .doubt)
    (slots : t.slots = s.slots.set i r) : StationOk t :=
  h.narrowed station mark clearing fun j =>
    slot_of_set_cases slots (p := fun j d => d.state = .doubt → (s.slot j).state = .doubt) doubt (fun _ => id) j

/-- The station state depends on itself, the mark, the clearing and the slots. -/
theorem StationOk.of_seen {s t : State} (h : StationOk s) (station : t.station = s.station) (mark : t.mark = s.mark)
    (clearing : t.clearing = s.clearing) (slots : t.slots = s.slots) : StationOk t :=
  h.narrowed station mark clearing fun i => by rw [slot_congr slots]; exact id

/-- Every effect keeps the station state. -/
theorem Effect.keeps_station {s t : State} (e : Effect s t) (h : StationOk s) : StationOk t := by
  cases e with
  | slot i r follows seen =>
    exact h.set (congrArg Tracked.station seen) (congrArg Tracked.mark seen) (congrArg Tracked.clearing seen) follows.doubt
      (congrArg Tracked.slots seen)
  | leftRejoin rejoin decided seen =>
    have station : t.station = .run := congrArg Tracked.station seen
    have slots : t.slots = s.slots := congrArg Tracked.slots seen
    obtain ⟨valid, clear⟩ := h.2.2.2 (by simp [State.onBus, rejoin])
    have mark : t.mark = true := (congrArg Tracked.mark seen : t.mark = s.mark).trans valid
    have clearing : t.clearing = false := (congrArg Tracked.clearing seen : t.clearing = s.clearing).trans clear
    refine ⟨fun _ => ?_, by simp [station], by simp [station], fun _ => ⟨mark, clearing⟩⟩
    unfold anyDoubt
    rw [firstSlot_congr slots]
    exact decided
  | _ =>
    rename_i seen
    exact h.of_seen (congrArg Tracked.station seen) (congrArg Tracked.mark seen) (congrArg Tracked.clearing seen)
      (congrArg Tracked.slots seen)

/-- So does every move. -/
theorem Move.keeps_station (s t : State) (step : Move s t) (h : StationOk s) : StationOk t := by
  cases step with
  | effect e => exact e.keeps_station h
  | access i offset words v c seen =>
    exact h.set (r := { s.slot i with version := v, check := c }) (congrArg Tracked.station seen) (congrArg Tracked.mark seen)
      (congrArg Tracked.clearing seen) id (congrArg Tracked.slots seen)
  | bidWon r r' i page partner inFrame aside paged done seen =>
    exact h.set (congrArg Tracked.station seen) (congrArg Tracked.mark seen) (congrArg Tracked.clearing seen) (by simp)
      (congrArg Tracked.slots seen)
  | claimed i page free apart unheld unbid seen =>
    exact h.set (congrArg Tracked.station seen) (congrArg Tracked.mark seen) (congrArg Tracked.clearing seen) (by simp)
      (congrArg Tracked.slots seen)
  | _ =>
    rename_i seen
    exact h.of_seen (congrArg Tracked.station seen) (congrArg Tracked.mark seen) (congrArg Tracked.clearing seen)
      (congrArg Tracked.slots seen)

/-- Every step of the supply keeps the station state. -/
theorem SupplyStep.keeps_station (s t : State) (step : SupplyStep s t) (h : StationOk s) : StationOk t := by
  cases step with
  | fell cause areas =>
    have station : (supplyFall cause areas s).station = .retain := rfl
    have clearing : (supplyFall cause areas s).clearing = false := rfl
    refine ⟨?_, fun _ => clearing, ?_, ?_⟩ <;> simp [station, State.onBus]
  | started straps sel vbat retain =>
    have station : (startUp straps sel vbat s).station = .settle := rfl
    refine ⟨?_, ?_, fun _ => rfl, ?_⟩ <;> simp [station, State.onBus]
  | cleared settle clearing =>
    rw [storeClearingEnd, if_pos ⟨settle, clearing⟩]
    refine ⟨?_, ?_, fun _ => rfl, ?_⟩ <;> simp [settle, State.onBus]
  | settled settle clearing =>
    rw [settleEnd, if_pos ⟨settle, clearing⟩]
    have valid : s.mark = true := by simpa [clearing] using h.2.2.1 settle
    have later : ∀ b : Bool, (if b then StationState.rejoin else .run) = .run → b = false := by decide
    have awake : ∀ b : Bool, (if b then StationState.rejoin else .run) ≠ .retain ∧
        (if b then StationState.rejoin else .run) ≠ .settle := by decide
    exact ⟨later (anyDoubt s), fun off => absurd off (awake _).1, fun off => absurd off (awake _).2,
      fun _ => ⟨valid, clearing⟩⟩
  | ticked =>
    unfold seekTick
    split
    · refine h.narrowed rfl rfl rfl fun i => ?_
      rw [slot_mapSlots, (atSeekTick_holds _ _).1]
      exact id
    · exact h

/-! ### The view and the record -/

/-- The view and the record beside an unchanged station state. -/
theorem ViewOk.of_seen {s t : State} (h : ViewOk s) (view : t.view = s.view) (frame : t.frame = s.frame)
    (bus : t.onBus = s.onBus) : ViewOk t := by
  unfold ViewOk
  rw [view, frame, bus]
  exact h

/-- Whether the station is on the bus, by its state. -/
theorem onBus_of_station {s t : State} (station : t.station = s.station) : t.onBus = s.onBus := by
  unfold State.onBus
  rw [station]

/-- A change made on the bus, or in another view than WAITING, which is to be on the bus. -/
theorem ViewOk.viewed {s t : State} (h : ViewOk s) (station : t.station = s.station) (bus : s.onBus = true ∨ s.view ≠ .waiting)
    (agree : t.frame.isSome = t.view.isInFrame) : ViewOk t := by
  refine ⟨agree, fun off => ?_⟩
  have off' : s.onBus = false := (onBus_of_station station).symm.trans off
  rcases bus with on | other
  · exact absurd (on.symm.trans off') (by decide)
  · exact absurd (h.2 off') other

/-- Every effect keeps view and record. -/
theorem Effect.keeps_view {s t : State} (e : Effect s t) (h : ViewOk s) : ViewOk t := by
  refine h.of_seen e.undisturbed.view e.undisturbed.frame ?_
  cases e with
  | leftRejoin rejoin decided seen =>
    have station : t.station = .run := congrArg Tracked.station seen
    simp [State.onBus, station, rejoin]
  | _ =>
    rename_i seen
    exact onBus_of_station (congrArg Tracked.station seen)

/-- A record in the place of another. -/
theorem ViewOk.edited {s t : State} (h : ViewOk s) {r r' : FrameRecord} (inFrame : s.frame = some r) (frame : t.frame = some r')
    (view : t.view = s.view) (station : t.station = s.station) : ViewOk t := by
  obtain ⟨agree, off⟩ := h
  refine ⟨?_, fun bus => view.trans (off ((onBus_of_station station).symm.trans bus))⟩
  rw [frame, view, ← agree, inFrame]
  rfl

/-- So does every move. -/
theorem Move.keeps_view (s t : State) (step : Move s t) (h : ViewOk s) : ViewOk t := by
  cases step with
  | effect e => exact e.keeps_view h
  | edited r r' inFrame bid seen =>
    exact h.edited inFrame (congrArg Tracked.frame seen) (congrArg Tracked.view seen) (congrArg Tracked.station seen)
  | bidBegun r r' page inFrame point paged unheld free seen =>
    exact h.edited inFrame (congrArg Tracked.frame seen) (congrArg Tracked.view seen) (congrArg Tracked.station seen)
  | bidWon r r' i page partner inFrame aside paged done seen =>
    exact h.edited inFrame (congrArg Tracked.frame seen) (congrArg Tracked.view seen) (congrArg Tracked.station seen)
  | viewed v agree bus seen =>
    have frame : t.frame = s.frame := congrArg Tracked.frame seen
    have view : t.view = v := congrArg Tracked.view seen
    refine h.viewed (congrArg Tracked.station seen) bus ?_
    rw [frame, view]
    exact (agree.elim id fun same => same.trans h.1.symm).symm
  | opened part joined bus seen =>
    have frame : t.frame = some (FrameRecord.begun part) := congrArg Tracked.frame seen
    have view : t.view = .inFrame joined := congrArg Tracked.view seen
    refine h.viewed (congrArg Tracked.station seen) (Or.inl bus) ?_
    rw [frame, view]
    rfl
  | dropped v view inFrame seen =>
    have frame : t.frame = none := congrArg Tracked.frame seen
    have viewed : t.view = v := congrArg Tracked.view seen
    have other : s.view ≠ .waiting := fun waiting => by
      have := h.1
      rw [inFrame, waiting] at this
      exact absurd this (by decide)
    refine h.viewed (congrArg Tracked.station seen) (Or.inr other) ?_
    rw [frame, viewed, view]
    rfl
  | _ =>
    rename_i seen
    exact h.of_seen (congrArg Tracked.view seen) (congrArg Tracked.frame seen) (onBus_of_station (congrArg Tracked.station seen))

/-- Every step of the supply keeps view and record. -/
theorem SupplyStep.keeps_view (s t : State) (step : SupplyStep s t) (h : ViewOk s) : ViewOk t := by
  cases step with
  | fell cause areas => exact ⟨rfl, fun _ => rfl⟩
  | started straps sel vbat retain => exact ⟨rfl, fun _ => rfl⟩
  | cleared settle clearing =>
    rw [storeClearingEnd, if_pos ⟨settle, clearing⟩]
    exact h.of_seen rfl rfl rfl
  | settled settle clearing =>
    have waiting : s.view = .waiting := h.2 (by simp [State.onBus, settle])
    rw [settleEnd, if_pos ⟨settle, clearing⟩]
    refine ⟨?_, fun _ => rfl⟩
    have agree := h.1
    rw [waiting] at agree
    exact agree
  | ticked =>
    unfold seekTick
    split
    · exact h.of_seen rfl rfl rfl
    · exact h

/-! ### Copies in question -/

/-- The copies beside slots that are in question only with their recovery due, or as they were. -/
theorem DueOk.narrowed {s t : State} (h : DueOk s) (station : t.station ≠ .retain → s.station ≠ .retain)
    (clearing : t.clearing = s.clearing)
    (slots : ∀ i, (t.slot i).InQuestion → (t.slot i).Waits ∨ (s.slot i).InQuestion ∧ ((s.slot i).Waits → (t.slot i).Waits)) :
    DueOk t := by
  intro awake still i question
  rcases slots i question with waits | ⟨before, on⟩
  · exact waits
  · exact on (h (station awake) (clearing ▸ still) i before)

/-- The copies with one slot written. -/
theorem DueOk.set {s t : State} (h : DueOk s) (station : t.station = s.station) (clearing : t.clearing = s.clearing) {i : SlotIx}
    {r : Slot} (waits : r.InQuestion → r.Waits ∨ (s.slot i).InQuestion ∧ ((s.slot i).Waits → r.Waits))
    (slots : t.slots = s.slots.set i r) : DueOk t :=
  h.narrowed (fun awake => station ▸ awake) clearing fun j => slot_of_set_cases slots
    (p := fun j d => d.InQuestion → d.Waits ∨ (s.slot j).InQuestion ∧ ((s.slot j).Waits → d.Waits)) waits
    (fun _ question => Or.inr ⟨question, id⟩) j

/-- The copies depend on the station state, the clearing and the slots. -/
theorem DueOk.of_seen {s t : State} (h : DueOk s) (station : t.station ≠ .retain → s.station ≠ .retain)
    (clearing : t.clearing = s.clearing) (slots : t.slots = s.slots) : DueOk t :=
  h.narrowed station clearing fun i question => by
    rw [slot_congr slots] at question ⊢
    exact Or.inr ⟨question, id⟩

/-- Every effect keeps the copies due. -/
theorem Effect.keeps_due {s t : State} (e : Effect s t) (h : DueOk s) : DueOk t := by
  cases e with
  | slot i r follows seen =>
    exact h.set (congrArg Tracked.station seen) (congrArg Tracked.clearing seen) follows.waits (congrArg Tracked.slots seen)
  | leftRejoin rejoin decided seen =>
    exact h.of_seen (fun _ => by simp [rejoin]) (congrArg Tracked.clearing seen) (congrArg Tracked.slots seen)
  | _ =>
    rename_i seen
    have station : t.station = s.station := congrArg Tracked.station seen
    exact h.of_seen (fun awake => station ▸ awake) (congrArg Tracked.clearing seen) (congrArg Tracked.slots seen)

/-- So does every move. -/
theorem Move.keeps_due (s t : State) (step : Move s t) (h : DueOk s) : DueOk t := by
  cases step with
  | effect e => exact e.keeps_due h
  | access i offset words v c seen =>
    exact h.set (congrArg Tracked.station seen) (congrArg Tracked.clearing seen)
      (Slot.follows_written s.straps.ms (s.slot i) v c).waits (congrArg Tracked.slots seen)
  | bidWon r r' i page partner inFrame aside paged done seen =>
    exact h.set (congrArg Tracked.station seen) (congrArg Tracked.clearing seen) (by simp [Slot.InQuestion])
      (congrArg Tracked.slots seen)
  | claimed i page free apart unheld unbid seen =>
    exact h.set (congrArg Tracked.station seen) (congrArg Tracked.clearing seen) (by simp [Slot.InQuestion])
      (congrArg Tracked.slots seen)
  | _ =>
    rename_i seen
    have station : t.station = s.station := congrArg Tracked.station seen
    exact h.of_seen (fun awake => station ▸ awake) (congrArg Tracked.clearing seen) (congrArg Tracked.slots seen)

/-- After the warm start a copy in question has its recovery due. -/
theorem waits_warm (d : Slot) (question : d.warm.InQuestion) : d.warm.Waits := by
  cases hd : d.state <;> simp_all [Slot.warm, Slot.InQuestion, Slot.Waits, Slot.freed]

/-- The seek tick makes a spent slot due again. -/
theorem waits_atSeekTick (ms : Bool) (d : Slot) (waits : d.Waits) : (d.atSeekTick ms).Waits := by
  unfold Slot.atSeekTick
  dsimp only
  split
  · exact Or.inl rfl
  · split
    · exact Or.inl rfl
    · exact waits

/-- Every step of the supply keeps the copies due. -/
theorem SupplyStep.keeps_due (s t : State) (step : SupplyStep s t) (h : DueOk s) : DueOk t := by
  cases step with
  | fell cause areas => exact fun awake => absurd rfl awake
  | started straps sel vbat retain =>
    intro awake still i
    have valid : (s.mark && (s.vddGood || vbat)) = true := by simpa only [startUp, Bool.not_eq_eq_eq_not, Bool.not_false] using still
    rw [slot_startUp, if_pos valid]
    exact waits_warm (s.slot i)
  | cleared settle clearing =>
    rw [storeClearingEnd, if_pos ⟨settle, clearing⟩]
    intro _ _ i
    rw [slot_of_cleared rfl]
    simp [Slot.freed]
  | settled settle clearing =>
    rw [settleEnd, if_pos ⟨settle, clearing⟩]
    exact h.of_seen (fun _ => by simp [settle]) rfl rfl
  | ticked =>
    unfold seekTick
    split
    · refine h.narrowed id rfl fun i question => Or.inr ?_
      rw [slot_mapSlots] at question ⊢
      rw [Slot.InQuestion, (atSeekTick_holds _ _).1] at question
      exact ⟨question, waits_atSeekTick _ _⟩
    · exact h

/-! ### The commands waiting -/

/-- A step of the supply keeps the commands waiting. -/
theorem SupplyStep.keeps_pending {s t : State} (h : SupplyStep s t) : t.pending = s.pending := by
  cases h with
  | fell cause areas => rfl
  | started straps sel vbat retain => rfl
  | cleared settle clearing => rw [storeClearingEnd, if_pos ⟨settle, clearing⟩]
  | settled settle clearing =>
    rw [settleEnd, if_pos ⟨settle, clearing⟩]
    rfl
  | ticked =>
    unfold seekTick
    split <;> rfl

end Sys2Proof.Machine

namespace Sys2Proof.Proofs

open Sys2Proof.Machine

/-- Settles O4: a write access keeps the store's form, and so does a clearing cut short or ended; nothing else writes the store. -/
theorem stepKeepsStore : Obligations.StepKeepsStore :=
  step_keeps Move.keeps_store SupplyStep.keeps_store (fun _ _ => id) fun _ _ => id

/-- Settles O5, by the shape every slot record a move writes has (`Slot.Follows`). -/
theorem stepKeepsSlotShapes : Obligations.StepKeepsSlotShapes :=
  step_keeps Move.keeps_slots SupplyStep.keeps_slots (fun _ _ => id) fun _ _ => id

/-- Settles O6: a page enters a slot only where no slot and no other bid holds it. -/
theorem stepKeepsPagesApart : Obligations.StepKeepsPagesApart :=
  step_keeps Move.keeps_pages SupplyStep.keeps_pages (fun _ _ => id) fun _ _ => id

/-- Settles O7: an entry joins only within the bounds, a result is left only by the one entry other than a WRITE, and failed writes
go back only where they fit. -/
theorem stepKeepsQueueBounds : Obligations.StepKeepsQueueBounds :=
  step_keeps Move.keeps_queue SupplyStep.keeps_queue (fun _ _ => id) fun _ _ => id

/-- Settles O8: a WRITE fails only from flight, beside which the list is empty. -/
theorem stepKeepsFaultList : Obligations.StepKeepsFaultList :=
  step_keeps Move.keeps_faults SupplyStep.keeps_faults (fun _ _ => id) fun _ _ => id

/-- Settles O9: no slot becomes DOUBT outside the start, and SETTLE ends only with the mark written. -/
theorem stepKeepsStationState : Obligations.StepKeepsStationState :=
  step_keeps Move.keeps_station SupplyStep.keeps_station (fun _ _ => id) fun _ _ => id

/-- Settles O10: the record and the view IN FRAME come and go together, on the bus. -/
theorem stepKeepsViewAndRecord : Obligations.StepKeepsViewAndRecord :=
  step_keeps Move.keeps_view SupplyStep.keeps_view (fun _ _ => id) fun _ _ => id

/-- Settles O11: a slot comes into question with its recovery due, and loses that only with its third attempt. -/
theorem stepKeepsCopiesDue : Obligations.StepKeepsCopiesDue :=
  step_keeps Move.keeps_due SupplyStep.keeps_due (fun _ _ => id) fun _ _ => id

/-- Settles O2: every command answers by moves or by a step of the supply, and neither touches the commands waiting. -/
theorem everyCommandAnswersNext : Obligations.EveryCommandAnswersNext := by
  intro c s
  obtain ⟨t, answers, how⟩ := exec_cases c s
  refine ⟨t, answers, how.elim (fun moved => ?_) SupplyStep.keeps_pending⟩
  obtain ⟨-, -, pending⟩ := moved.pins
  refine pending.trans ?_
  cases c <;> rfl

end Sys2Proof.Proofs
end

section
/-! Frame rows event by event: the pin a row reads, the low phase of a field with and without an access of its own, the single bits
and the closing that follow it. -/

namespace Sys2Proof.Machine

/-! ### A row and its pin -/

/-- PROT as the row of a kind leaves it: read where the row carries it, else as it was (log 12). -/
def rowProt (k : Kind) (prot : Bool) (s : State) : Bool :=
  match k with
  | .verify | .release | .read => s.prot
  | .resync | .repair | .claim | .offer | .write => prot

/-- A frame row runs its events on the station with its pin read. -/
theorem exec_frameRow (k : Kind) (prot : Bool) (es : List FrameEvent) (s : State) :
    exec (frameRow k prot es) s = .next (frameEvents k.code es (readProt (rowProt k prot s) s)) := by
  cases k <;> rfl

/-- The row of an undefined kind. -/
theorem exec_undefinedKindFrame (low : BitVec 3) (es : List FrameEvent) (s : State) :
    exec (.undefinedKindFrame low es) s = .next (frameEvents (1#1 ++ low) es s) := rfl

/-- A pin read as it stands changes nothing. -/
theorem readProt_self {p : Bool} {s : State} (h : s.prot = p) : readProt p s = s := by
  subst h
  rfl

/-- The pin a row has read, it reads again. -/
theorem readProt_rowProt {k : Kind} {prot : Bool} {s t : State} (h : t.prot = rowProt k prot s) :
    readProt (rowProt k prot t) t = t := by
  refine readProt_self ?_
  cases k <;> first | exact h | rfl

/-- Events in two pieces. -/
theorem frameEvents_append (row : BitVec 4) (es fs : List FrameEvent) (s : State) :
    frameEvents row (es ++ fs) s = frameEvents row fs (frameEvents row es s) := List.foldl_append

/-- The events of a frame leave the pin. -/
theorem frameEvents_prot (row : BitVec 4) (es : List FrameEvent) (s : State) : (frameEvents row es s).prot = s.prot :=
  (frameEvents_moves row es s).pins.1

/-! ### The low phase of a field -/

/-- The record once the low phase of its next bit has begun. -/
def FrameRecord.lowered (r : FrameRecord) : FrameRecord := { r with low := true, pbdHeld := r.low && r.pbdHeld }

/-- A record in its low phase is as it stands. -/
theorem lowered_of_low {r : FrameRecord} (h : r.low = true) : r.lowered = r := by
  cases r
  simp only at h
  subst h
  simp [FrameRecord.lowered]

/-- The record as it stands. -/
theorem withRecord_self {s : State} {r : FrameRecord} (h : s.frame = some r) : s.withRecord r = s := by
  simp [State.withRecord, ← h]

/-- What a station prepares as a field's low phase begins. -/
def FrameRecord.prepares (k : Kind) (r : FrameRecord) (s : State) : State :=
  match r.point with
  | .answer => if r.answer.isEmpty then answerBegins k r s else s
  | .bid => bidBegins r s
  | .ack => ackBegins r s
  | .winnerAck => winnerAckBegins r s
  | .over => closingBegins k r s
  | _ => s

/-- The low phase that begins where a frame stands. -/
theorem StandsAt.lowPhase_fresh {s : State} {r : FrameRecord} {k : Kind} {p : Point} (h : StandsAt s r k p)
    (fresh : r.low = false) : lowPhase s = r.prepares k (s.withRecord r.lowered) := by
  obtain ⟨inFrame, code, -, reads, bits, -⟩ := h
  have begun : modifyFrame (fun r => { r with low := true, pbdHeld := false }) s = s.withRecord r.lowered := by
    simp [modifyFrame, State.withRecord, inFrame, FrameRecord.lowered, fresh]
  simp only [lowPhase, inFrame, fresh, beq_iff_eq, reads, Bool.false_or, if_false, begun, bits, List.isEmpty_nil, Bool.not_true,
    Bool.false_eq_true, kind_of_code code]
  rfl

/-- The low phase that has begun. -/
theorem lowPhase_begun {s : State} {r : FrameRecord} (inFrame : s.frame = some r) (begun : r.low = true) : lowPhase s = s := by
  simp [lowPhase, inFrame, begun]

/-- A field with nothing to prepare and no access of its own is sampled as it stands. -/
theorem StandsAt.ready_plain {s : State} {r : FrameRecord} {k : Kind} {p : Point} (h : StandsAt s r k p)
    (free : s.arbiter.busyFor .frame = false)
    (nothing : r.low = false → r.prepares k (s.withRecord r.lowered) = s.withRecord r.lowered) :
    ready s = s.withRecord r.lowered := by
  cases begun : r.low with
  | true => rw [ready_free h.1 begun free, lowered_of_low begun, withRecord_self h.1]
  | false =>
    rw [ready, h.lowPhase_fresh begun, nothing begun]
    exact settle_free free

/-! ### An access of the frame's own, with the store idle -/

/-- An access leaves an idle store idle. -/
theorem applyAccess_idle {i : SlotIx} {k : AccessKind} {s : State} (idle : StoreIdle s) : StoreIdle (applyAccess i k s) := by
  have written : ∀ (m : Store) (r : Slot), StoreIdle ({ s with store := m }.setSlot i r) := fun m r => by
    simp [StoreIdle, State.setSlot, idle, Arbiter.idle]
  cases k with
  | snapshot => exact idle
  | checkStep => exact idle
  | wordWrite offset words v => exact written _ _
  | pageLoad v words c => exact written _ _
  | zeroFill => exact written _ _

/-- The frame engine's own act leaves it idle too. -/
theorem frameAccessEnds_idle {i : SlotIx} {k : AccessKind} {s : State} (idle : StoreIdle s) : StoreIdle (frameAccessEnds i k s) := by
  cases k <;> exact idle

/-- An access does not touch the record of the frame. -/
@[simp] theorem applyAccess_frame (i : SlotIx) (k : AccessKind) (s : State) : (applyAccess i k s).frame = s.frame := by
  cases k <;> rfl

/-- With the store idle the frame's access is made, and the stretch lasts until the frame engine has acted on its end. -/
theorem settle_request {s : State} (idle : StoreIdle s) (q : Request) :
    settle (request .frame q s) = frameAccessEnds q.slot q.kind (applyAccess q.slot q.kind s) := by
  have quiet : StoreIdle (applyAccess q.slot q.kind s) := applyAccess_idle idle
  have done : StoreIdle (frameAccessEnds q.slot q.kind (applyAccess q.slot q.kind s)) := frameAccessEnds_idle quiet
  have made : grantNext (frameAccessEnds q.slot q.kind (applyAccess q.slot q.kind s)) =
      frameAccessEnds q.slot q.kind (applyAccess q.slot q.kind s) := by
    simp [grantNext, done, Arbiter.idle]
  have back : (grant .frame q s).withArbiter { (grant .frame q s).arbiter with inProgress := none } =
      applyAccess q.slot q.kind s := by
    calc (grant .frame q s).withArbiter { (grant .frame q s).arbiter with inProgress := none }
        = (applyAccess q.slot q.kind s).withArbiter { (applyAccess q.slot q.kind s).arbiter with inProgress := none } := rfl
      _ = (applyAccess q.slot q.kind s).withArbiter (applyAccess q.slot q.kind s).arbiter := by rw [quiet]; rfl
      _ = applyAccess q.slot q.kind s := rfl
  have ended : accessEnd (grant .frame q s) = frameAccessEnds q.slot q.kind (applyAccess q.slot q.kind s) :=
    (congrArg (fun u => grantNext (frameAccessEnds q.slot q.kind u)) back).trans made
  have asked : (grant .frame q s).arbiter.busyFor .frame = true := by simp [Arbiter.busyFor, grant]
  rw [request_idle _ _ _ idle, settle, if_pos asked, ended]
  exact if_neg (by simp [busyFor_idle done])

/-- The same, as the frame engine asks. -/
theorem settle_requestForFrame {s : State} (idle : StoreIdle s) (i : SlotIx) (k : AccessKind) :
    settle (requestForFrame i k s) = frameAccessEnds i k (applyAccess i k s) := settle_request idle ⟨i, k⟩

/-! ### The closing -/

/-- The record as its closing finds it: its low phase has been, and an access prepared in it may be asked for or kept back. -/
def FrameRecord.toClose (r : FrameRecord) (load : LoadDecision) : FrameRecord := { r.lowered with load := load }

/-- A page load prepared for the closing, with the store idle. -/
theorem settle_pageLoadBegins {s : State} {r : FrameRecord} (st : SlotState) (q : FrameRecord) (inFrame : s.frame = some r)
    (idle : StoreIdle s) : ∃ load, (settle (pageLoadBegins st q s)).frame = some { r with load := load } ∧
      StoreIdle (settle (pageLoadBegins st q s)) := by
  unfold pageLoadBegins
  split
  · exact ⟨r.load, by simpa [settle_free (busyFor_idle idle _)] using inFrame, by rwa [settle_free (busyFor_idle idle _)]⟩
  · split
    · rw [settle_free (busyFor_idle (by exact idle) _)]
      exact ⟨.keptBack, by simp [inFrame], idle⟩
    · rw [settle_requestForFrame (by exact idle)]
      exact ⟨.requested, by simp [frameAccessEnds, inFrame], frameAccessEnds_idle (applyAccess_idle idle)⟩

/-- A zero fill prepared for the closing, with the store idle. -/
theorem settle_zeroFillBegins {s : State} {r : FrameRecord} (inFrame : s.frame = some r) (idle : StoreIdle s) :
    ∃ load, (settle (zeroFillBegins s)).frame = some { r with load := load } ∧ StoreIdle (settle (zeroFillBegins s)) := by
  unfold zeroFillBegins
  split
  · exact ⟨r.load, by simpa [settle_free (busyFor_idle idle _)] using inFrame, by rwa [settle_free (busyFor_idle idle _)]⟩
  · split
    · rw [settle_free (busyFor_idle (by exact idle) _)]
      exact ⟨.keptBack, by simp [inFrame], idle⟩
    · rw [settle_requestForFrame (by exact idle)]
      exact ⟨.requested, by simp [frameAccessEnds, inFrame], frameAccessEnds_idle (applyAccess_idle idle)⟩

/-- With the store idle a frame is ready to close, whatever access its closing prepares. -/
theorem StandsAt.ready_over {s : State} {r : FrameRecord} {k : Kind} (h : StandsAt s r k .over) (idle : StoreIdle s) :
    ∃ load, (ready s).frame = some (r.toClose load) ∧ StoreIdle (ready s) := by
  have asItStands : ∀ t : State, t.frame = some r.lowered → StoreIdle t →
      ∃ load, (settle t).frame = some (r.toClose load) ∧ StoreIdle (settle t) := fun t inFrame quiet => by
    rw [settle_free (busyFor_idle quiet _)]
    exact ⟨r.load, inFrame, quiet⟩
  cases begun : r.low with
  | true =>
    rw [ready, lowPhase_begun h.1 begun]
    exact asItStands s (by rw [lowered_of_low begun, h.1]) idle
  | false =>
    have point : r.point = .over := h.2.2.1
    have prepared : r.prepares k (s.withRecord r.lowered) = closingBegins k r (s.withRecord r.lowered) := by
      simp [FrameRecord.prepares, point]
    rw [ready, h.lowPhase_fresh begun, prepared]
    unfold closingBegins
    split
    · split
      · split
        · exact settle_pageLoadBegins .stale r rfl idle
        · exact asItStands _ rfl idle
      · split
        · exact settle_pageLoadBegins .primary r rfl idle
        · exact asItStands _ rfl idle
      · split
        · exact settle_zeroFillBegins rfl idle
        · exact asItStands _ rfl idle
      · exact asItStands _ rfl idle
    · exact asItStands _ rfl idle

/-- The closing of a frame that stands complete: the changes of its kind, and the frame is dropped. -/
theorem StandsAt.closing_ready {s : State} {r : FrameRecord} {k : Kind} (h : StandsAt s r k .over) {load : LoadDecision}
    (ready : (ready s).frame = some (r.toClose load)) :
    frameEvent k.code s .closing = dropFrame (r.toClose load) (closeFrame k (r.toClose load) (Machine.ready s)) := by
  obtain ⟨inFrame, code, point, reads, bits, closed⟩ := h
  have complete : r.completeHere = true := by simp [FrameRecord.completeHere, point]
  have kind : (r.toClose load).kind = some k := kind_of_code (r := r.toClose load) code
  have effects : frameEffects .complete (r.toClose load) (Machine.ready s) = closeFrame k (r.toClose load) (Machine.ready s) := by
    rw [frameEffects, if_neg (by simp [FrameRecord.toClose, FrameRecord.lowered, reads, closed])]
    simp only [kind]
  rw [frameEvent_closing inFrame (fits_code code), if_pos complete, endFrame, ready]
  exact congrArg (dropFrame (r.toClose load)) effects

/-- The originator begins its closing: it makes the changes, and the frame stays until its end (R167). -/
theorem StandsAt.closingBegun_ready {s : State} {r : FrameRecord} {k : Kind} (h : StandsAt s r k .over)
    (originator : r.part = .originator) {load : LoadDecision} (ready : (ready s).frame = some (r.toClose load)) :
    frameEvent k.code s .closingBegun = makeClosing k (r.toClose load) (Machine.ready s) := by
  obtain ⟨inFrame, code, point, reads, bits, closed⟩ := h
  have kind : (r.toClose load).kind = some k := kind_of_code (r := r.toClose load) code
  have begins : (r.toClose load).originates = true ∧ (r.toClose load).point = .over ∧ (r.toClose load).closed = false := by
    simp [FrameRecord.toClose, FrameRecord.lowered, FrameRecord.originates, originator, point, closed]
  rw [frameEvent_closingBegun inFrame (fits_code code), beginClosing]
  simp only [ready, Option.bind_some, kind, if_pos begins]

/-- The closing's end, once the originator has made its changes, drops the frame and changes nothing more. -/
theorem closing_made {s : State} {r : FrameRecord} {row : BitVec 4} (inFrame : s.frame = some r) (fits : r.fits row = true)
    (complete : r.completeHere = true) (low : r.low = true) (closed : r.closed = true) (free : s.arbiter.busyFor .frame = false) :
    frameEvent row s .closing = dropFrame r s := by
  rw [frameEvent_closing inFrame fits, if_pos complete, ready_free inFrame low free, endFrame, inFrame]
  simp [frameEffects, closed]

/-- The changes of a closing ask for no access. -/
theorem busyFor_frame_of_lanes {s t : State} (h : t.tracked.lanes = s.tracked.lanes) :
    t.arbiter.busyFor .frame = s.arbiter.busyFor .frame := by
  have frame : t.arbiter.frame = s.arbiter.frame := (congrArg Arbiter.frame h :)
  have inProgress : t.arbiter.inProgress = s.arbiter.inProgress := (congrArg Arbiter.inProgress h :)
  simp [Arbiter.busyFor, frame, inProgress]

/-- An originator's closing in its two moments is the closing whole, with the store idle. -/
theorem StandsAt.closing_pieces {s : State} {r : FrameRecord} {k : Kind} (h : StandsAt s r k .over)
    (originator : r.part = .originator) (idle : StoreIdle s) :
    frameEvents k.code [.closingBegun, .closing] s = frameEvents k.code [.closing] s := by
  obtain ⟨load, inFrame, quiet⟩ := h.ready_over idle
  simp only [frameEvents_cons, frameEvents_nil]
  rw [h.closingBegun_ready originator inFrame, h.closing_ready inFrame]
  have changes := (closeFrame_effects k (r.toClose load) (ready s)).undisturbed
  have begun : (makeClosing k (r.toClose load) (ready s)).frame = some { r.toClose load with closed := true } := by
    rw [makeClosing_frame, inFrame]
    rfl
  have free : (makeClosing k (r.toClose load) (ready s)).arbiter.busyFor .frame = false :=
    (busyFor_frame_of_lanes (s := ready s) changes.lanes).trans (busyFor_idle quiet _)
  refine (closing_made begun (fits_code h.2.1) ?_ rfl rfl free).trans rfl
  have point : r.point = .over := h.2.2.1
  simp [FrameRecord.completeHere, FrameRecord.toClose, FrameRecord.lowered, point]

end Sys2Proof.Machine

namespace Sys2Proof.Proofs

open Sys2Proof.Machine

/-- Settles O12: the events of a row are a fold and its pin is read again as it stands; the changes an originator makes as it begins
its closing are those of the closing whole, for the access before them is made by then. -/
theorem frameInPieces : Obligations.FrameInPieces := by
  refine ⟨⟨fun k prot es fs s t run => ?_, fun low es fs s t run => ?_⟩, fun k prot s r stands originator idle => ?_⟩
  · rw [exec_frameRow] at run
    obtain rfl := Host.Outcome.next.inj run
    rw [exec_frameRow, exec_frameRow, readProt_rowProt (frameEvents_prot _ _ _), frameEvents_append]
  · rw [exec_undefinedKindFrame] at run
    obtain rfl := Host.Outcome.next.inj run
    rw [exec_undefinedKindFrame, exec_undefinedKindFrame, frameEvents_append]
  · rw [exec_frameRow, exec_frameRow]
    have stands : StandsAt (readProt (rowProt k prot s) s) r k .over := stands
    have quiet : StoreIdle (readProt (rowProt k prot s) s) := idle
    generalize readProt (rowProt k prot s) s = u at stands quiet
    exact congrArg _ (stands.closing_pieces originator quiet)

end Sys2Proof.Proofs
end

section
/-! The station at rest, the local commands in SETTLE, and the request commands of the send queue. -/

namespace Sys2Proof.Machine

/-! ### Refusals in order -/

/-- The first of a list of tests refuses, or the rest decide. -/
theorem firstRefusal_if {p : Prop} [Decidable p] (st : Status) (tests : List (Option Status)) :
    firstRefusal ((if p then some st else none) :: tests) = if p then some st else firstRefusal tests := by
  unfold firstRefusal
  split <;> simp

/-- No test refuses nothing. -/
theorem firstRefusal_nil : firstRefusal [] = none := rfl

/-- The queue is full at 8 entries. -/
theorem queueFull_iff {s : State} : queueFull s = true ↔ 8 ≤ s.queue.length := by
  simp [queueFull, Config.queueCapacity]

/-- The test of the queue's room. -/
theorem testFull_eq (s : State) : testFull s = if 8 ≤ s.queue.length then some .full else none := by
  simp [testFull, queueFull_iff]

/-- The tests of CLAIM. -/
theorem claimRefusal_eq (page : PageId) (s : State) : claimRefusal page s =
    if 8 ≤ s.queue.length then some .full
    else if hasNonWrite s || s.result.isSome then some .busy
    else if s.prot then some .prot
    else if (freeForClaim s).isNone then some .noSlot
    else if heldHere page s then some .heldHere
    else none := by
  simp only [claimRefusal, testFull_eq, testBusy, testProt, testNoSlot, testHeldHere, firstRefusal_if, firstRefusal_nil]

/-- The tests of ADOPT. -/
theorem adoptRefusal_eq (page : PageId) (s : State) : adoptRefusal page s =
    if 8 ≤ s.queue.length then some .full
    else if hasNonWrite s || s.result.isSome then some .busy
    else if s.prot then some .prot
    else if stateFor page s ≠ .stale then some .notHeld
    else none := by
  have stale : testStale page s = if stateFor page s ≠ .stale then some .notHeld else none := by
    simp [testStale]
  simp only [adoptRefusal, testFull_eq, testBusy, testProt, stale, firstRefusal_if, firstRefusal_nil]

/-- The tests of RELEASE. -/
theorem releaseRefusal_eq (page : PageId) (s : State) : releaseRefusal page s =
    if 8 ≤ s.queue.length then some .full
    else if hasNonWrite s || s.result.isSome then some .busy
    else if stateFor page s ≠ .primary ∧ stateFor page s ≠ .mirror ∧ stateFor page s ≠ .stale then some .notHeld
    else none := by
  have releasable : testReleasable page s =
      if stateFor page s ≠ .primary ∧ stateFor page s ≠ .mirror ∧ stateFor page s ≠ .stale then some .notHeld else none := by
    unfold testReleasable
    cases stateFor page s <;> rfl
  simp only [releaseRefusal, testFull_eq, testBusy, releasable, firstRefusal_if, firstRefusal_nil]

/-- The tests of WRITE. -/
theorem writeRefusal_eq (offset c : Byte) (s : State) : writeRefusal offset c s =
    if 127 < offset.toNat ∨ 7 < c.toNat then some .invalid
    else if 8 ≤ s.queue.length then some .full
    else none := by
  simp only [writeRefusal, testWriteRange, testFull_eq, firstRefusal_if, firstRefusal_nil]

/-- The tests of a READ to be queued. -/
theorem readRefusal_eq (s : State) : readRefusal s =
    if 8 ≤ s.queue.length then some .full
    else if hasNonWrite s || s.result.isSome then some .busy
    else none := by
  simp only [readRefusal, testFull_eq, testBusy, firstRefusal_if, firstRefusal_nil]

/-! ### The request commands -/

/-- CLAIM runs on the pin it reads. -/
theorem exec_claim_ready {s : State} (page : PageId) (prot : Bool) (ready : Ready s) :
    exec (.claim page prot) s = .next (claim page (readProt prot s)) :=
  congrArg _ (localCommand_ready (s := readProt prot s) ready)

/-- So does ADOPT. -/
theorem exec_adopt_ready {s : State} (page : PageId) (prot : Bool) (ready : Ready s) :
    exec (.adopt page prot) s = .next (adopt page (readProt prot s)) :=
  congrArg _ (localCommand_ready (s := readProt prot s) ready)

/-- RELEASE. -/
theorem exec_release_ready {s : State} (page : PageId) (ready : Ready s) :
    exec (.release page) s = .next (release page s) := congrArg _ (localCommand_ready ready)

/-- WRITE, once its words have arrived. -/
theorem exec_write_ready {s : State} (page : PageId) (offset c : Byte) (words : List Word) (ready : Ready s)
    (arrived : writeArrived c words = true) :
    exec (.write page offset c words) s = .next (writePage page offset c words s) := by
  have act : exec (.write page offset c words) s =
      .next (if writeArrived c words then localCommand (writePage page offset c words) s else s) := rfl
  rw [act, if_pos arrived, localCommand_ready ready]

/-- READ. -/
theorem exec_read_ready {s : State} (page : PageId) (offset c : Byte) (ready : Ready s) :
    exec (.read page offset c) s = .next (readPage page offset c s) := congrArg _ (localCommand_ready ready)

/-- A free slot for a claim does not depend on the pin. -/
theorem freeForClaim_readProt (prot : Bool) (s : State) : freeForClaim (readProt prot s) = freeForClaim s := rfl

/-- A refused CLAIM. -/
theorem claim_refused {page : PageId} {s : State} {st : Status} (refused : claimRefusal page s = some st) :
    claim page s = reply st [] s := by
  unfold claim
  rw [refused]

/-- An accepted CLAIM. -/
theorem claim_accepted {page : PageId} {s : State} (passed : claimRefusal page s = none) :
    ∃ i, freeForClaim s = some i ∧ claim page s = accept (.claim page .new (some i)) (becomeClaiming i page s) := by
  cases found : freeForClaim s with
  | none =>
    rw [claimRefusal_eq, found] at passed
    simp only [Option.isNone_none, if_true] at passed
    split at passed
    · cases passed
    · split at passed
      · cases passed
      · split at passed <;> cases passed
  | some i =>
    refine ⟨i, rfl, ?_⟩
    unfold claim
    rw [passed, found]

/-- A refused ADOPT. -/
theorem adopt_refused {page : PageId} {s : State} {st : Status} (refused : adoptRefusal page s = some st) :
    adopt page s = reply st [] s := by
  unfold adopt
  rw [refused]

/-- An accepted ADOPT. -/
theorem adopt_accepted {page : PageId} {s : State} (passed : adoptRefusal page s = none) :
    adopt page s = accept (.claim page .adopt none) s := by
  unfold adopt
  rw [passed]

/-- A refused RELEASE. -/
theorem release_refused {page : PageId} {s : State} {st : Status} (refused : releaseRefusal page s = some st) :
    release page s = reply st [] s := by
  unfold release
  rw [refused]

/-- An accepted RELEASE. -/
theorem release_accepted {page : PageId} {s : State} (passed : releaseRefusal page s = none) :
    release page s = accept (.release page) s := by
  unfold release
  rw [passed]

/-- A refused WRITE. -/
theorem writePage_refused {page : PageId} {offset c : Byte} {words : List Word} {s : State} {st : Status}
    (refused : writeRefusal offset c s = some st) : writePage page offset c words s = reply st [] s := by
  unfold writePage
  rw [refused]

/-- An accepted WRITE takes the words its count asks. -/
theorem writePage_accepted {page : PageId} {offset c : Byte} {words : List Word} {s : State}
    (passed : writeRefusal offset c s = none) (counted : words.length = c.toNat + 1) :
    writePage page offset c words s = accept (.write page offset words) s := by
  unfold writePage
  rw [passed, ← counted, List.take_length]

/-- The states a page is served in. -/
theorem serves_iff {st : SlotState} : st.serves = true ↔ st = .primary ∨ st = .mirror := by
  cases st <;> decide

/-- A READ within its range of a page held here is served at once, or runs past the page. -/
theorem readPage_held {page : PageId} {offset c : Byte} {s : State} (low : offset.toNat ≤ 127) (few : c.toNat ≤ 15)
    (held : stateFor page s = .primary ∨ stateFor page s = .mirror) :
    readPage page offset c s =
      if 128 < offset.toNat + (c.toNat + 1) then reply .range [] s
      else startParts [⟨page, offset.toNat, c.toNat + 1, false⟩] s := by
  have passes : testReadRange offset c = none := if_neg (by omega)
  simp only [readPage, passes, serves_iff.mpr held, if_true, Config.wordsPerPage]

/-- Of another page it is refused by its tests. -/
theorem readPage_refused {page : PageId} {offset c : Byte} {s : State} {st : Status} (low : offset.toNat ≤ 127)
    (few : c.toNat ≤ 15) (away : ¬ (stateFor page s = .primary ∨ stateFor page s = .mirror))
    (refused : readRefusal s = some st) : readPage page offset c s = reply st [] s := by
  have passes : testReadRange offset c = none := if_neg (by omega)
  simp only [readPage, passes, mt serves_iff.mp away, Bool.false_eq_true, if_false, refused]

/-- Or queued. -/
theorem readPage_queued {page : PageId} {offset c : Byte} {s : State} (low : offset.toNat ≤ 127) (few : c.toNat ≤ 15)
    (away : ¬ (stateFor page s = .primary ∨ stateFor page s = .mirror)) (passed : readRefusal s = none) :
    readPage page offset c s = accept (.read page offset (c.toNat + 1)) s := by
  have passes : testReadRange offset c = none := if_neg (by omega)
  simp only [readPage, passes, mt serves_iff.mp away, Bool.false_eq_true, if_false, passed]

end Sys2Proof.Machine

namespace Sys2Proof.Proofs

open Sys2Proof.Machine

/-- Settles O1. -/
theorem stepRunsFrontCommand : Obligations.StepRunsFrontCommand := ⟨fun _ _ _ => rfl, fun _ => rfl⟩

/-- Settles O3: the part never started has an empty store and queue, and every slot freed. -/
theorem resetMeetsInvariants : Obligations.ResetMeetsInvariants := by
  have slots : ∀ i, State.reset.slot i = Slot.freed := fun i => slot_of_cleared rfl i
  refine ⟨rfl, rfl, rfl, Memory.wf_nil, fun i => ?_, ⟨fun i j p hi => ?_, by simp [slotSetAside, State.reset],
    by simp [bidPage, State.reset], by simp [State.reset]⟩, queueOk_of_lost rfl rfl, faultsOk_of_lost rfl rfl, ?_,
    ⟨rfl, fun _ => rfl⟩, fun awake => absurd rfl awake⟩
  · rw [slots]
    exact shaped_freed _
  · exact absurd (by rw [slots]; rfl) hi
  · refine ⟨?_, fun _ => rfl, ?_, ?_⟩ <;> simp [State.reset, State.onBus]

/-- Settles O13: every one of these commands is a local command on the station with its pin read. -/
theorem settleRefusesCommands : Obligations.SettleRefusesCommands := by
  intro c s refused settle
  have acts : ∀ body, localCommand body s = reply .notReady [] s := fun body => localCommand_settle settle
  have pinned : ∀ prot body, localCommand body (readProt prot s) = reply .notReady [] (readProt prot s) :=
    fun prot body => localCommand_settle (s := readProt prot s) settle
  cases c
  case claim page prot => exact congrArg _ (pinned prot _)
  case adopt page prot => exact congrArg _ (pinned prot _)
  case write page offset count words =>
    have arrived : writeArrived count words = true := refused
    have act : exec (.write page offset count words) s =
      .next (if writeArrived count words then localCommand (writePage page offset count words) s else s) := rfl
    rw [act, if_pos arrived]
    exact congrArg _ (acts _)
  all_goals first
    | exact absurd refused Bool.false_ne_true
    | exact congrArg _ (acts _)

/-- Settles O20: the tests of CLAIM in order, and the slot it takes. -/
theorem claimCommand : Obligations.ClaimCommand := by
  intro page prot s ready
  refine ⟨claimRefusal_eq page (readProt prot s), fun st refused => ?_, fun passed => ?_⟩
  · rw [exec_claim_ready page prot ready, claim_refused refused]
  · obtain ⟨i, found, accepted⟩ := claim_accepted passed
    refine ⟨i, found, ?_⟩
    rw [exec_claim_ready page prot ready, accepted]
    rfl

/-- Settles O21: the tests of ADOPT and of RELEASE in order, and their entries. -/
theorem adoptAndReleaseCommands : Obligations.AdoptAndReleaseCommands := by
  intro page prot s ready
  refine ⟨⟨adoptRefusal_eq page (readProt prot s), fun st refused => ?_, fun passed => ?_⟩,
    releaseRefusal_eq page s, fun st refused => ?_, fun passed => ?_⟩
  · rw [exec_adopt_ready page prot ready, adopt_refused refused]
  · rw [exec_adopt_ready page prot ready, adopt_accepted passed]
    rfl
  · rw [exec_release_ready page ready, release_refused refused]
  · rw [exec_release_ready page ready, release_accepted passed]
    rfl

/-- Settles O22: WRITE's two tests, and the entry with the words counted. -/
theorem writeCommand : Obligations.WriteCommand := by
  intro page offset c words s ready
  refine ⟨fun far arrived => ?_, fun low few counted full => ?_, fun low few counted room => ?_⟩
  · rw [exec_write_ready page offset c words ready arrived, writePage_refused (by rw [writeRefusal_eq, if_pos far])]
  · have arrived : writeArrived c words = true := by simp [writeArrived, counted]
    rw [exec_write_ready page offset c words ready arrived,
      writePage_refused (by rw [writeRefusal_eq, if_neg (by omega), if_pos full])]
  · have arrived : writeArrived c words = true := by simp [writeArrived, counted]
    rw [exec_write_ready page offset c words ready arrived,
      writePage_accepted (by rw [writeRefusal_eq, if_neg (by omega), if_neg (by omega)]) counted]
    rfl

/-- Settles O23: READ's range, its service from a page held here, and its tests before it is queued. -/
theorem readCommand : Obligations.ReadCommand := by
  intro page offset c s ready
  refine ⟨fun far => ?_, fun low few => ⟨fun held past => ?_, fun held within => ?_, fun away full => ?_, fun away room busy => ?_,
    fun away room free => ?_⟩⟩
  · have refused : testReadRange offset c = some .invalid := if_pos far
    rw [exec_read_ready page offset c ready, readPage, refused]
  · rw [exec_read_ready page offset c ready, readPage_held low few held, if_pos past]
  · rw [exec_read_ready page offset c ready, readPage_held low few held, if_neg (by omega)]
  · rw [exec_read_ready page offset c ready, readPage_refused low few away (by rw [readRefusal_eq, if_pos full])]
  · rw [exec_read_ready page offset c ready,
      readPage_refused low few away (by rw [readRefusal_eq, if_neg (by omega), if_pos busy])]
  · rw [exec_read_ready page offset c ready,
      readPage_queued low few away (by rw [readRefusal_eq, if_neg (by omega), if_neg (by simp [free])])]
    rfl

/-- Settles O60: the checks of the known bytes, computed. -/
theorem checkValues : Obligations.CheckValues := by
  unfold Obligations.CheckValues
  refine ⟨?_, ?_, ?_, ?_⟩ <;> decide

end Sys2Proof.Proofs
end

section
/-! The local port: pointers and parts, transactions, the bytes of a reply. -/

namespace Sys2Proof.Machine

/-! ### The stream pointer -/

/-- SET POINTER acts. -/
theorem exec_setPointer_ready {s : State} (page : PageId) (word : Byte) (ready : Ready s) :
    exec (.setPointer page word) s = .next (setPointer page word s) := congrArg _ (localCommand_ready ready)

/-- STREAM READ acts. -/
theorem exec_streamRead_ready {s : State} (c : Byte) (ready : Ready s) :
    exec (.streamRead c) s = .next (streamRead c s) := congrArg _ (localCommand_ready ready)

/-- BLOCK READ acts. -/
theorem exec_blockRead_ready {s : State} (c : Byte) (ready : Ready s) :
    exec (.blockRead c) s = .next (blockRead c s) := congrArg _ (localCommand_ready ready)

/-- STREAM READ within its range moves the pointer and starts the parts of the run. -/
theorem streamRead_inRange {c : Byte} {s : State} {p' : PageId} {w' : BitVec 7} {parts : List PartSpec} (few : c.toNat ≤ 127)
    (pointer : pointerAfter s.pointerPage s.pointerWord.toNat (c.toNat + 1) = (p', w'))
    (run : streamParts s.pointerPage s.pointerWord.toNat (c.toNat + 1) = parts) :
    streamRead c s = startParts parts { s with pointerPage := p', pointerWord := w' } := by
  unfold streamRead
  rw [if_neg (by omega)]
  dsimp only
  rw [pointer, run]

/-! ### Parts -/

/-- The slot a part is served from. -/
theorem servedFrom_none {p : PartSpec} {s : State}
    (away : ∀ i, lookup s p.page = some i → (s.slot i).state.serves = false) :
    ((lookup s p.page).filter fun i => (s.slot i).state.serves) = none := by
  cases found : lookup s p.page with
  | none => rfl
  | some i => simp [Option.filter, away i found]

/-- A part for a page not held here is NOTHELD, and takes no snapshot. -/
theorem partDue_away {p : PartSpec} {s : State}
    (away : ∀ i, lookup s p.page = some i → (s.slot i).state.serves = false) :
    partDue p s = modifyTxn (fun t => { t with ready := t.ready ++ [⟨.notHeld, notHeldData p, false⟩] }) s := by
  unfold partDue
  rw [servedFrom_none away]

/-- A part for a page held here takes its snapshot, at once with the store idle. -/
theorem partDue_held {p : PartSpec} {s : State} {i : SlotIx} (found : lookup s p.page = some i)
    (serves : (s.slot i).state.serves = true) (idle : StoreIdle s) :
    partDue p s = { modifyTxn (fun t => { t with awaiting := some p }) s with
      arbiter := { Arbiter.idle with
        inProgress := some ⟨.port, i, .snapshot, (s.slot i).page, (s.slot i).damaged, true⟩ } } := by
  unfold partDue
  rw [found]
  simp only [Option.filter, serves, if_true]
  rw [request_idle _ _ _ (by exact idle)]
  simp [grant, applyAccess, idle, State.slot]

/-- The next part falls due. -/
theorem nextPartDue_cons {s : State} {t : Transaction} {p : PartSpec} {ps : List PartSpec} (txn : s.txn = some t)
    (todo : t.todo = p :: ps) : nextPartDue s = partDue p { s with txn := some { t with todo := ps } } := by
  simp [nextPartDue, txn, todo]

/-- No part is left. -/
theorem nextPartDue_nil {s : State} {t : Transaction} (txn : s.txn = some t) (todo : t.todo = []) : nextPartDue s = s := by
  simp [nextPartDue, txn, todo]

/-- A command that returns parts lets the first fall due. -/
theorem startParts_cons {s : State} {t : Transaction} (p : PartSpec) (ps : List PartSpec) (txn : s.txn = some t) :
    startParts (p :: ps) s =
      nextByteBegins (partDue p { s with txn := some { t with taken := true, todo := ps } }) := by
  have started : modifyTxn (fun t => { t with taken := true, todo := p :: ps }) s =
      { s with txn := some { t with taken := true, todo := p :: ps } } := by simp [modifyTxn, txn]
  rw [startParts, started]
  refine congrArg nextByteBegins (nextPartDue_cons (t := { t with taken := true, todo := p :: ps }) ?_ ?_) <;> rfl

/-! ### SDO -/

/-- What a station places next is filler exactly where nothing is being sent and nothing is ready. -/
theorem nextByteBegins_eq (s : State) :
    nextByteBegins s = { s with txn := s.txn.map fun t => { t with fillerBegun := t.sending.isNone && t.ready.isEmpty } } := rfl

/-- REPLY_BYTE_CLOCKED_OUT clocks a byte out. -/
theorem exec_replyByteClockedOut (held : Bool) (s : State) : exec (.replyByteClockedOut held) s = .next (clockOut held s) := rfl

/-- The station once the status byte of a part is out. -/
def statusSent (p : ReplyPart) (t : Transaction) (s : State) : State :=
  { s with
    txn := some { t with sending := if 2 < p.length then some (p, 2) else none, statusSent := true }
    sdo := partByte p (s.short && !t.statusSent) 1
    short := s.short && t.statusSent }

/-- After the status byte of a part without a snapshot its words begin to be sent, and the next part falls due (R177). -/
theorem partByteSent_status {p : ReplyPart} {t : Transaction} {s : State} (words : p.data ≠ []) (plain : p.snapshot = false) :
    partByteSent p 1 t s = nextPartDue (statusSent p t s) := by
  cases short : s.short <;> cases sent : t.statusSent <;> simp [partByteSent, statusSent, words, plain, short, sent]

/-- After the status byte of any other part, or with no part left, none falls due. -/
theorem partByteSent_status_alone {p : ReplyPart} {t : Transaction} {s : State}
    (alone : p.data = [] ∨ p.snapshot = true ∨ t.todo = []) : partByteSent p 1 t s = statusSent p t s := by
  have sent : p.data = [] ∨ p.snapshot = true → partByteSent p 1 t s = statusSent p t s := fun h => by
    rw [partByteSent_plain (Or.inr h.symm)]
    cases short : s.short <;> cases sent : t.statusSent <;> simp [statusSent, short, sent]
  by_cases words : p.data = []
  · exact sent (Or.inl words)
  · cases plain : p.snapshot with
    | true => exact sent (Or.inr plain)
    | false =>
      have last : t.todo = [] := by simpa [words, plain] using alone
      rw [partByteSent_status words plain]
      exact nextPartDue_nil rfl last

end Sys2Proof.Machine

namespace Sys2Proof.Proofs

open Sys2Proof.Machine

/-- Settles O15: the pointer commands, with the one or two parts of a run and the pages of a block. -/
theorem pointerCommands : Obligations.PointerCommands := by
  refine ⟨fun page word s ready => ⟨fun low => ?_, fun high => ?_⟩, fun c s ready => ⟨fun far => ?_, fun few inside => ?_,
    fun few whole => ?_, fun few across => ?_⟩, fun c s ready => ⟨fun far => ?_, fun few => ?_⟩⟩
  · rw [exec_setPointer_ready page word ready, setPointer, if_neg (by omega)]
  · rw [exec_setPointer_ready page word ready, setPointer, if_pos high]
  · rw [exec_streamRead_ready c ready, streamRead, if_pos far]
  · rw [exec_streamRead_ready c ready,
      streamRead_inRange few (if_pos inside) (if_pos (by simp [Config.wordsPerPage]; omega))]
  · have pointer : pointerAfter s.pointerPage s.pointerWord.toNat (c.toNat + 1) = (s.pointerPage + 1, 0) := by
      simp [pointerAfter, whole, Config.wordsPerPage]
    rw [exec_streamRead_ready c ready, streamRead_inRange few pointer (if_pos (by simp [Config.wordsPerPage]; omega))]
  · rw [exec_streamRead_ready c ready,
      streamRead_inRange few (if_neg (by omega)) (if_neg (by simp [Config.wordsPerPage]; omega))]
  · rw [exec_blockRead_ready c ready, blockRead, if_pos far]
  · refine ⟨blockParts s.pointerPage (c.toNat + 1), by simp [blockParts], fun k h => ?_, ?_⟩
    · simp [blockParts, Config.wordsPerPage]
    · rw [exec_blockRead_ready c ready, blockRead, if_neg (by omega)]

/-- Settles O16: a part is NOTHELD at once or awaits its snapshot, and the parts fall due one after the other. -/
theorem pageParts : Obligations.PageParts := by
  refine ⟨fun p ps s t txn => ⟨fun away => ?_, fun i found serves idle => ?_⟩, fun s t txn todo => nextPartDue_nil txn todo,
    fun p ps s t txn todo => ⟨fun away => ?_, fun i found serves idle => ?_⟩⟩
  · rw [startParts_cons p ps txn, partDue_away (by exact away)]
    simp [nextByteBegins, modifyTxn, notHeldData]
  · rw [startParts_cons p ps txn, partDue_held (s := { s with txn := some _ }) found serves idle]
    rfl
  · rw [nextPartDue_cons txn todo, partDue_away (by exact away)]
    rfl
  · rw [nextPartDue_cons txn todo, partDue_held (s := { s with txn := some _ }) found serves idle]
    rfl

/-- Settles O18: a transaction begins and ends with SEL, and its end withdraws the port's snapshot alone. -/
theorem transactions : Obligations.Transactions := by
  refine ⟨fun s awake selHigh none => ?_, fun edge s t awake txn => ?_⟩
  · have begins : transactionStart s = { s with selHigh := false, txn := some Transaction.begun, sdo := 0 } := by
      simp [transactionStart, awake, selHigh, none]
    exact congrArg _ begins
  · have ends : transactionEnd edge s = withdraw .port
        { s with selHigh := true, txn := none, sdo := 0, short := s.short || t.isShort edge } := by
      simp [transactionEnd, awake, txn]
    exact congrArg _ ends

/-- Settles O19: the byte clocked out in each stage of a transaction. -/
theorem replyBytes : Obligations.ReplyBytes := by
  intro held s t txn
  simp only [exec_replyByteClockedOut]
  refine ⟨fun untaken => ?_, fun taken idle filler => ?_, fun p rest taken idle ready first => ?_, fun p taken sending => ?_,
    fun p n taken sending => ?_⟩
  · rw [clockOut_untaken txn untaken]
  · rw [clockOut_taken txn taken, replyByteSent_filler idle filler, nextByteBegins_eq]
  · rw [clockOut_taken txn taken, replyByteSent_marker idle ready first, partByteSent_plain (Or.inl (by decide)),
      nextByteBegins_eq]
    simp [partByte, Config.replyMarker, ReplyPart.length]
  · rw [clockOut_taken txn taken, replyByteSent_sending sending]
    refine ⟨fun alone => ?_, fun words plain => ?_⟩
    · rw [partByteSent_status_alone alone, nextByteBegins_eq]
      rfl
    · rw [partByteSent_status words plain, nextByteBegins_eq]
      rfl
  · rw [clockOut_taken txn taken, replyByteSent_sending sending, partByteSent_plain (Or.inl (by omega)), nextByteBegins_eq]
    have within : n + 3 < p.data.length + 2 ↔ n + 2 ≤ p.data.length := by omega
    simp [partByte, ReplyPart.length, within]

end Sys2Proof.Proofs
end

section
/-! The queue's image and ABANDON, the fault unit's commands, the supply, BUS CLEAR and the scrub tick. -/

namespace Sys2Proof.Machine

/-! ### The queue image -/

/-- The queue's four flags lie side by side under four zero bits. -/
theorem queueFlags_eq_append : ∀ a b c d : Bool, bitAt 0 a ||| bitAt 1 b ||| bitAt 2 c ||| bitAt 3 d =
    0#4 ++ BitVec.ofBool d ++ BitVec.ofBool c ++ BitVec.ofBool b ++ BitVec.ofBool a := by
  decide

/-- An entry's flight, mode and kind lie side by side in its second byte. -/
theorem entryByte_eq_append (flight : Bool) (mode : Option ClaimMode) (kind : Kind) :
    bitAt 7 flight ||| (modeByte mode <<< 4) ||| kind.byte =
      BitVec.ofBool flight ++ 0#1
        ++ (match mode with
          | none => 0#2 | some .new => 1#2 | some .adopt => 2#2) ++ kind.code := by
  match mode with
  | none => cases kind <;> revert flight <;> decide
  | some .new => cases kind <;> revert flight <;> decide
  | some .adopt => cases kind <;> revert flight <;> decide

/-! ### ABANDON -/

/-- Entries given up change slots alone. -/
theorem removeEntries_keeps {α : Type} (f : State → α) (hf : ∀ i r u, f (State.setSlot u i r) = f u) (es : List Entry)
    (s : State) : f (removeEntries es s) = f s := by
  induction es generalizing s with
  | nil => rfl
  | cons e es ih => exact (ih (freeClaim e s)).trans (freeClaim_keeps f hf e s)

/-- The first entry is given up, then the rest. -/
theorem removeEntries_cons (e : Entry) (es : List Entry) (s : State) :
    removeEntries (e :: es) s = removeEntries es (freeClaim e s) := rfl

/-- A slot that is not CLAIMING stays. -/
theorem removeEntries_other (es : List Entry) {s : State} {i : SlotIx} (other : (s.slot i).state ≠ .claiming) :
    (removeEntries es s).slot i = s.slot i := by
  induction es generalizing s with
  | nil => rfl
  | cons e es ih =>
    have stays : (freeClaim e s).slot i = s.slot i := (freeClaim_freed e s).2 i (Or.inr other)
    rw [removeEntries_cons, ih (by rw [stays]; exact other), stays]

/-- A slot no entry given up has claimed stays. -/
theorem removeEntries_unclaimed {es : List Entry} {s : State} {i : SlotIx}
    (unclaimed : ∀ e page, e ∈ es → e.body ≠ .claim page .new (some i)) : (removeEntries es s).slot i = s.slot i := by
  induction es generalizing s with
  | nil => rfl
  | cons e es ih =>
    have stays : (freeClaim e s).slot i = s.slot i :=
      (freeClaim_freed e s).2 i (Or.inl fun page => unclaimed e page List.mem_cons_self)
    rw [removeEntries_cons, ih fun e' page h => unclaimed e' page (List.mem_cons_of_mem _ h), stays]

/-- The CLAIMING slot of an entry given up is freed. -/
theorem removeEntries_claimed {es : List Entry} {s : State} {i : SlotIx} {e : Entry} {page : PageId} (mem : e ∈ es)
    (claims : e.body = .claim page .new (some i)) (claiming : (s.slot i).state = .claiming) :
    (removeEntries es s).slot i = Slot.freed := by
  induction es generalizing s with
  | nil => cases mem
  | cons e' es ih =>
    rw [removeEntries_cons]
    obtain ⟨own, others⟩ := freeClaim_freed e' s
    by_cases here : ∃ page', e'.body = .claim page' .new (some i)
    · obtain ⟨page', here⟩ := here
      have freed := own i page' here claiming
      rw [removeEntries_other es (by rw [freed]; decide), freed]
    · have stays := others i (Or.inl (not_exists.mp here))
      have later : e ∈ es := (List.mem_cons.mp mem).resolve_left fun same => here ⟨page, same ▸ claims⟩
      exact ih later (by rw [stays]; exact claiming)

/-- The entries ABANDON removes at once. -/
def removedByAbandon (s : State) : List Entry :=
  match s.queue with
  | [] => []
  | e :: rest => if e.inFlight then rest else e :: rest

/-- The entry it gives up in flight. -/
def givenUp (s : State) : Option Entry :=
  match s.queue with
  | [] => s.abandoned
  | e :: _ => if e.inFlight then some e else s.abandoned

/-- What ABANDON does to the queue. -/
theorem abandonQueue_eq (s : State) :
    abandonQueue s = removeEntries (removedByAbandon s) { s with queue := [], abandoned := givenUp s } := by
  cases hq : s.queue with
  | nil =>
    have same : ({ s with queue := [], abandoned := givenUp s } : State) = s := by
      simp only [givenUp, hq]
      rw [← hq]
    simp [abandonQueue, removedByAbandon, hq, same, removeEntries]
  | cons e rest => cases flight : e.inFlight <;> simp [abandonQueue, removedByAbandon, givenUp, hq, flight]

/-- A claimant whose need has gone does not wait. -/
theorem busyFor_withdraw (s : State) : (withdraw .handover s).arbiter.busyFor .handover = false := by
  cases h : s.arbiter.inProgress with
  | none => simp [withdraw, disown, Arbiter.busyFor, h]
  | some a => by_cases own : a.claimant = .handover <;> simp [withdraw, disown, Arbiter.busyFor, h, own]

/-- QUEUE STATE answers the queue's image. -/
theorem exec_queueState (s : State) : exec .queueState s = .next (localCommand (fun s => reply .ok (queueImage s) s) s) := rfl

/-- READ OUTCOME answers the outcome set's. -/
theorem exec_readOutcome (s : State) :
    exec .readOutcome s = .next (localCommand (fun s => reply .ok (outcomeImage s.outcome) s) s) := rfl

/-- ABANDON. -/
theorem exec_abandon (s : State) : exec .abandon s = .next (localCommand abandon s) := rfl

/-! ### The fault unit -/

/-- READ FAULT. -/
theorem exec_readFault (s : State) : exec .readFault s = .next (localCommand readFault s) := rfl

/-- EDIT FAULT. -/
theorem exec_editFault (page : PageId) (offset : Byte) (s : State) :
    exec (.editFault page offset) s = .next (localCommand (editFault page offset) s) := rfl

/-- REWRITE. -/
theorem exec_rewrite (s : State) : exec .rewrite s = .next (localCommand rewrite s) := rfl

/-- A write that runs past its page. -/
theorem runsPast_iff {offset : Byte} {data : List Word} : runsPast offset data = true ↔ 128 < offset.toNat + data.length := by
  simp [runsPast, Config.wordsPerPage]

/-- An edit that fails pushes its FORMAT record. -/
theorem rewrite_bad {s : State} {cause : Code} {first : HeldWrite} {followers : List HeldWrite} {rest : List FaultRecord}
    {entry : FailingEntry} {field : FailingField} (top : s.faults = .writeFailed cause first followers :: rest)
    (bad : validate s.editOffset first followers = some (entry, field)) :
    rewrite s = reply .badEdit [] (pushFault (.format entry field s.editPage s.editOffset) s) := by
  simp only [rewrite, top, bad]

/-- An edit that holds is put back. -/
theorem rewrite_good {s : State} {cause : Code} {first : HeldWrite} {followers : List HeldWrite} {rest : List FaultRecord}
    (top : s.faults = .writeFailed cause first followers :: rest) (good : validate s.editOffset first followers = none) :
    rewrite s = putBackAll (edited s.editPage s.editOffset first followers) rest s := by
  simp only [rewrite, top, good]

/-- No follower fails, of two at most. -/
theorem failingFollower_none {followers : List HeldWrite} (good : ∀ f ∈ followers, ¬ 128 < f.offset.toNat + f.data.length) :
    failingFollower followers = none := by
  have passes : ∀ f ∈ followers, runsPast f.offset f.data = false := fun f h =>
    Bool.eq_false_iff.mpr (mt runsPast_iff.mp (good f h))
  unfold failingFollower
  split
  · rfl
  · rw [if_neg (by simp [passes])]
    split
    · rfl
    · rw [if_neg (by simp [passes])]

/-! ### The end of a bus clear -/

/-- Pulses that rise with PBD low, then one whose PBC does not rise, or that finds PBD high. -/
theorem pulseEnd_replicate (n m : Nat) (p : ClearPulse) (ps : List ClearPulse) :
    pulseEnd (n + m + 1) (List.replicate n ⟨true, false⟩ ++ p :: ps) =
      if !p.pbcRose then .stillStuck else if p.pbdHigh then .pbdHigh else pulseEnd m ps := by
  induction n with
  | zero => simp [pulseEnd]
  | succ n ih =>
    rw [show n + 1 + m + 1 = (n + m + 1) + 1 by omega, List.replicate_succ, List.cons_append, pulseEnd]
    simpa using ih

/-- As many such pulses as the part gives. -/
theorem pulseEnd_all (n : Nat) : pulseEnd n (List.replicate n ⟨true, false⟩) = .stillStuck := by
  induction n with
  | zero => rfl
  | succ n ih =>
    rw [List.replicate_succ, pulseEnd]
    simpa using ih

/-- The end of a clear with a result. -/
theorem exec_busClearEnd {s : State} {run : ClearRun} {status : Status} (clearing : s.view = .clearing)
    (result : clearResult run = some status) :
    exec (.busClearEnd run) s = .next (finishClear status (run.pbcAfter && run.pbdAfter) s) := by
  have ends : busClearEnd run s = finishClear status (run.pbcAfter && run.pbdAfter) s := by
    rw [busClearEnd, if_pos clearing, result]
  exact congrArg _ ends

/-- The result of a clear whose PBD read low at first. -/
theorem clearResult_pulses {run : ClearRun} (low : run.pbdHigh = false) {e : PulseEnd} (pulses : pulseEnd 16 run.pulses = e) :
    clearResult run = match e with
      | .pbdHigh => some (if run.pbcAfter && run.pbdAfter then .cleared else .stillStuck)
      | .stillStuck => some .stillStuck
      | .unfinished => none := by
  have first : pulseEnd Config.maxPulses run.pulses = e := pulses
  rw [clearResult, low]
  simp only [Bool.false_eq_true, if_false, first]
  cases e <;> rfl

/-- A frame that breaks off at a station that did not open it frees the winner's INCOMING slot alone. -/
theorem breakFrame_participant {stuckBus : Bool} {r : FrameRecord} {s : State} (reader : r.opened = false) :
    breakFrame stuckBus r s = dropIncoming r s := by
  unfold breakFrame
  dsimp only
  split
  · rw [if_neg (by simp [reader])]
  · rfl

/-- The broken-off frame of a station that did not open it. -/
theorem frameEffects_participant {how : FrameEnding} (broken : how ≠ .complete) {r : FrameRecord} {s : State}
    (reader : r.opened = false) : frameEffects how r s = s ∨ frameEffects how r s = dropIncoming r s := by
  unfold frameEffects
  split
  · exact Or.inl rfl
  · right
    cases how with
    | complete => exact absurd rfl broken
    | broken => exact breakFrame_participant reader
    | stuck => exact breakFrame_participant reader

/-- A slot freed leaves what a change of a slot and the end of an upkeep operation leave. -/
theorem freeSlot_keeps {α : Type} (f : State → α) (slot : ∀ i r u, f (State.setSlot u i r) = f u) (ended : ∀ u, f (endUpkeep u) = f u)
    (i : SlotIx) (s : State) : f (freeSlot i s) = f s := by
  unfold freeSlot
  dsimp only
  split
  · split
    · exact (ended _).trans (slot _ _ _)
    · exact slot _ _ _
  · exact slot _ _ _

/-- The same of the winner's INCOMING slot. -/
theorem dropIncoming_keeps {α : Type} (f : State → α) (slot : ∀ i r u, f (State.setSlot u i r) = f u)
    (ended : ∀ u, f (endUpkeep u) = f u) (role : ∀ u, f (reportRole false u) = f u) (r : FrameRecord) (s : State) :
    f (dropIncoming r s) = f s := by
  unfold dropIncoming
  split
  · split
    · exact (role _).trans (freeSlot_keeps f slot ended _ s)
    · rfl
  · rfl

/-- BUS CLEAR. -/
theorem exec_busClear (s : State) : exec .busClear s = .next (localCommand busClear s) := rfl

/-- The frame BUS CLEAR drops where no line is driven leaves the marker and the transaction. -/
theorem endFrame_undriven {s : State} (undriven : drivesLine s = false) :
    (endFrame .broken s).frame = none ∧ (endFrame .broken s).marker = s.marker ∧ (endFrame .broken s).txn = s.txn ∧
      (endFrame .broken s).store = s.store := by
  cases inFrame : s.frame with
  | none => simp [endFrame, inFrame]
  | some r =>
    have reader : r.opened = false := by
      simp only [drivesLine, inFrame, Bool.or_eq_false_iff] at undriven
      exact undriven.2.1
    have ended : endFrame .broken s = dropFrame r (frameEffects .broken r s) := by simp [endFrame, inFrame]
    have kept : ∀ {α : Type} (f : State → α), (∀ i r u, f (State.setSlot u i r) = f u) → (∀ u, f (endUpkeep u) = f u) →
        (∀ u, f (reportRole false u) = f u) → f (frameEffects .broken r s) = f s := fun f slot upkeep role =>
      (frameEffects_participant (how := .broken) (by decide) reader).elim (fun same => by rw [same]) fun dropped => by
        rw [dropped]
        exact dropIncoming_keeps f slot upkeep role r s
    rw [ended]
    refine ⟨rfl, ?_, ?_, ?_⟩
    · simpa [dropFrame, reader] using kept (·.marker) (fun _ _ _ => rfl) endUpkeep_marker fun _ => rfl
    · exact kept (·.txn) (fun _ _ _ => rfl) endUpkeep_txn fun _ => rfl
    · exact kept (·.store) (fun _ _ _ => rfl) endUpkeep_store fun _ => rfl

/-! ### The scrub tick -/

/-- The slot the tick finds, `n` places from the pointer on. -/
theorem scrubTarget_of {s : State} {n : Nat} (within : n < 64)
    (serves : (s.slot (s.scrubPtr + BitVec.toFin (BitVec.ofNat 6 n))).state.serves = true)
    (before : ∀ m, m < n → (s.slot (s.scrubPtr + BitVec.toFin (BitVec.ofNat 6 m))).state.serves = false) :
    scrubTarget s = some (s.scrubPtr + BitVec.toFin (BitVec.ofNat 6 n)) := by
  have place : ∀ m, (h : m < 64) → (⟨m, h⟩ : SlotIx) = BitVec.toFin (BitVec.ofNat 6 m) := fun m h => by
    apply Fin.ext
    simp [Nat.mod_eq_of_lt h]
  have order : ∀ m, (h : m < (scrubOrder s.scrubPtr).length) →
      (scrubOrder s.scrubPtr)[m] = s.scrubPtr + BitVec.toFin (BitVec.ofNat 6 m) := fun m h => by
    have h64 : m < 64 := by simpa [scrubOrder] using h
    rw [← place m h64]
    simp [scrubOrder]
  have long : (scrubOrder s.scrubPtr).length = 64 := by simp [scrubOrder]
  rw [scrubTarget, List.find?_eq_some_iff_getElem]
  refine ⟨serves, n, by omega, order n (by omega), fun m hm => ?_⟩
  rw [order m (by omega), before m hm]
  rfl

/-- The scrub tick. -/
theorem exec_scrubTick (s : State) : exec .scrubTick s = .next (scrubTick s) := rfl

/-- A check step asked for changes no slot and no word, and is granted at once by an idle store. -/
theorem request_checkStep {s : State} (i : SlotIx) :
    (request .scrub ⟨i, .checkStep⟩ s).slots = s.slots ∧ (request .scrub ⟨i, .checkStep⟩ s).store = s.store ∧
      (request .scrub ⟨i, .checkStep⟩ s).scrubPtr = s.scrubPtr ∧
      (StoreIdle s → (request .scrub ⟨i, .checkStep⟩ s).arbiter = { Arbiter.idle with
        inProgress := some ⟨.scrub, i, .checkStep, (s.slot i).page, (s.slot i).damaged, true⟩ }) ∧
      (s.arbiter.inProgress.isSome = true →
        (request .scrub ⟨i, .checkStep⟩ s).arbiter = { s.arbiter with scrub := some ⟨i, .checkStep⟩ }) := by
  refine ⟨?_, ?_, ?_, fun idle => ?_, fun busy => ?_⟩
  · unfold request
    split <;> rfl
  · unfold request
    split <;> rfl
  · unfold request
    split <;> rfl
  · rw [request_idle _ _ _ idle]
    simp [grant, applyAccess, idle]
  · obtain ⟨a, running⟩ := Option.isSome_iff_exists.mp busy
    simp [request, running]

end Sys2Proof.Machine

namespace Sys2Proof.Proofs

open Sys2Proof.Machine

/-- Settles O25: the images field by field, and ABANDON entry by entry. -/
theorem queueCommands : Obligations.QueueCommands := by
  refine ⟨fun s ready => ⟨?_, ?_, ?_, ?_⟩, fun s ready => ?_⟩
  · rw [exec_queueState, localCommand_ready ready]
  · rw [exec_readOutcome, localCommand_ready ready]
  · have entries : s.queue.map entryImage = s.queue.map fun e =>
        [e.tag,
          BitVec.ofBool e.inFlight ++ 0#1
            ++ (match e.body.mode with
              | none => 0#2 | some .new => 1#2 | some .adopt => 2#2) ++ e.body.kind.code,
          e.body.page, BitVec.ofNat 8 e.attempts.val] :=
      List.map_congr_left fun e _ => by rw [entryImage, entryByte_eq_append]
    rw [queueImage, entries, queueFlags_eq_append]
    cases s.abandoned <;> rfl
  · unfold outcomeImage
    cases s.outcome.identity <;> rfl
  · have removed : removedByAbandon (withdraw .handover s) = removedByAbandon s := rfl
    have kept : ∀ {α : Type} (f : State → α), (∀ i r u, f (State.setSlot u i r) = f u) →
        f (abandonQueue (withdraw .handover s)) =
          f { withdraw .handover s with queue := [], abandoned := givenUp (withdraw .handover s) } := fun f slot => by
      rw [abandonQueue_eq]
      exact removeEntries_keeps f slot _ _
    refine ⟨abandon s, by rw [exec_abandon, localCommand_ready ready], ?_⟩
    unfold abandon
    refine ⟨?_, ?_, ?_, ?_, ?_, ?_, ?_, ?_, ?_, ?_, ?_, ?_, ?_, ?_, ?_, ?_, ?_, ?_, ?_⟩
    · exact kept (·.queue) fun _ _ _ => rfl
    · exact (kept (·.abandoned) fun _ _ _ => rfl).trans rfl
    · exact (kept (fun u => u.arbiter.busyFor .handover) fun _ _ _ => rfl).trans (busyFor_withdraw s)
    · intro e page i mem claims claiming
      show (abandonQueue (withdraw .handover s)).slot i = Slot.freed
      rw [abandonQueue_eq]
      exact removeEntries_claimed mem claims claiming
    · intro i other
      show (abandonQueue (withdraw .handover s)).slot i = s.slot i
      rw [abandonQueue_eq]
      exact removeEntries_other _ other
    · intro i unclaimed
      show (abandonQueue (withdraw .handover s)).slot i = s.slot i
      rw [abandonQueue_eq]
      exact removeEntries_unclaimed unclaimed
    · exact kept (·.store) fun _ _ _ => rfl
    · exact kept (·.faults) fun _ _ _ => rfl
    · exact kept (·.editPage) fun _ _ _ => rfl
    · exact kept (·.editOffset) fun _ _ _ => rfl
    · exact kept (·.result) fun _ _ _ => rfl
    · exact kept (·.nextTag) fun _ _ _ => rfl
    · exact kept (·.outcome) fun _ _ _ => rfl
    · exact kept (·.accrued) fun _ _ _ => rfl
    · exact kept (·.frame) fun _ _ _ => rfl
    · exact kept (·.own) fun _ _ _ => rfl
    · exact kept (·.view) fun _ _ _ => rfl
    · exact kept (·.latches) fun _ _ _ => rfl
    · exact congrArg (Option.map _) (kept (·.txn) fun _ _ _ => rfl)

/-- Settles O29: READ FAULT by the top record, and the images field by field. -/
theorem readAndEditFault : Obligations.ReadAndEditFault := by
  refine ⟨fun s top rest ready listed => ?_, fun s ready empty => ?_, fun page offset s ready => ?_,
    fun page offset s settle => ⟨?_, ?_⟩, fun cause first followers => rfl, fun entry field page offset => ?_⟩
  · rw [exec_readFault, localCommand_ready ready]
    simp [readFault, listed, countByte]
  · rw [exec_readFault, localCommand_ready ready]
    simp [readFault, empty]
  · rw [exec_editFault, localCommand_ready ready, editFault]
  · rw [exec_readFault, localCommand_settle settle]
  · rw [exec_editFault, localCommand_settle settle]
  · cases entry <;> cases field <;> rfl

/-- Settles O32: the validation of the staged offset write by write, and the edited writes put back where there is room. -/
theorem rewrite : Obligations.Rewrite := by
  refine ⟨fun s ready empty => ?_, fun s entry field page offset rest ready listed => ?_,
    fun s cause first followers ready listed few => ⟨fun bad => ?_, fun good f1 rest shape bad => ?_, fun good f1 f2 shape good1 bad => ?_,
      fun good goods full => ?_, fun good goods room => ?_⟩⟩ <;>
    rw [exec_rewrite, localCommand_ready ready]
  · simp [Machine.rewrite, empty]
  · simp [Machine.rewrite, listed]
  · rw [rewrite_bad listed (entry := .first) (field := .offset) (if_pos (runsPast_iff.mpr bad))]
    simp [pushFault, listed, State.setLatch, Latch.mask, Latch.pos]
  · have fails : validate s.editOffset first followers = some (.follower1, .range) := by
      rw [validate, if_neg (mt runsPast_iff.mp good), shape]
      simp [failingFollower, runsPast_iff.mpr bad]
    rw [rewrite_bad listed fails]
    simp [pushFault, listed, State.setLatch, Latch.mask, Latch.pos]
  · have fails : validate s.editOffset first followers = some (.follower2, .range) := by
      have passes : runsPast f1.offset f1.data = false := Bool.eq_false_iff.mpr (mt runsPast_iff.mp good1)
      rw [validate, if_neg (mt runsPast_iff.mp good), shape]
      simp [failingFollower, passes, runsPast_iff.mpr bad]
    rw [rewrite_bad listed fails]
    simp [pushFault, listed, State.setLatch, Latch.mask, Latch.pos]
  all_goals
    have passes : validate s.editOffset first followers = none := by
      rw [validate, if_neg (mt runsPast_iff.mp good), failingFollower_none goods]
      rfl
    have count : (edited s.editPage s.editOffset first followers).length = followers.length + 1 := by simp [edited]
    rw [rewrite_good listed passes]
  · rw [putBackAll_of_no_room [] (by simpa [Config.queueCapacity, count] using full)]
  · rw [putBackAll_of_room [] (by simpa [Config.queueCapacity, count] using room), count]
    simp only [edited, List.map_cons, List.map_map]
    rfl

/-- Settles O33: everything but the store, the retentive slot fields and the mark is as in the part never started. -/
theorem supplyFall : Obligations.SupplyFall := by
  intro cause areas s
  refine ⟨Machine.supplyFall cause areas s, rfl, fun whole => ?_, fun i => ?_, rfl, rfl, rfl⟩
  · simp [Machine.supplyFall, whole]
  · exact slot_of_map (f := Slot.retained) rfl i

/-- Settles O34: the table of R21, slot by slot. -/
theorem warmStart : Obligations.WarmStart := by
  intro straps sel vbat s retain mark held
  have valid : (s.mark && (s.vddGood || vbat)) = true := by simp [mark, held]
  have starts : exec (.start straps sel vbat) s = .next (startUp straps sel vbat s) := congrArg _ (if_pos retain)
  refine ⟨_, starts, rfl, rfl, ?_, valid, ?_, rfl, rfl, rfl, rfl, rfl, rfl, rfl, rfl, rfl, rfl, fun i => ?_⟩
  · simp [startUp, valid]
  · simp [startUp, valid]
  · rw [slot_startUp, if_pos valid]
    refine ⟨fun h => ?_, fun h => ?_, fun h => ?_⟩
    · rcases h with h | h <;> simp [Slot.warm, h]
    · rcases h with h | h <;> simp [Slot.warm, h]
    · rcases h with h | h | h <;> simp [Slot.warm, h]

/-- Settles O35: the cold start, the end of its clearing and the end of SETTLE. -/
theorem coldStartAndSettleEnd : Obligations.ColdStartAndSettleEnd := by
  refine ⟨⟨fun straps sel vbat s retain invalid => ?_, fun s settle clearing => ?_⟩, fun s settle clearing => ?_⟩
  · have starts : exec (.start straps sel vbat) s = .next (startUp straps sel vbat s) := congrArg _ (if_pos retain)
    refine ⟨_, starts, rfl, rfl, ?_, invalid, ?_⟩
    · simp [startUp, invalid]
    · simp [startUp, invalid]
  · refine ⟨storeClearingEnd s, rfl, ?_⟩
    rw [storeClearingEnd, if_pos ⟨settle, clearing⟩]
    exact ⟨fun i => slot_of_cleared rfl i, fun _ => rfl, rfl, rfl, settle⟩
  · have ends : Machine.settleEnd s = _ := if_pos ⟨settle, clearing⟩
    exact congrArg _ ends

/-- Settles O38: BUS CLEAR is refused or drops the frame, and a clear ends by its pulses. -/
theorem busClear : Obligations.BusClear := by
  refine ⟨fun s ready => ⟨fun refused => ?_, fun idle undriven => ?_⟩, fun run s clearing => ⟨fun high => ?_,
    fun n b rest few low pulses => ?_, fun n rest few low pulses => ?_, fun low pulses => ?_⟩⟩
  · rw [exec_busClear, localCommand_ready ready, Machine.busClear, if_pos refused]
  · have begins : Machine.busClear s = beginClear s := if_neg (by simp [idle, undriven])
    obtain ⟨frame, marker, txn, store⟩ := endFrame_undriven undriven
    refine ⟨beginClear s, by rw [exec_busClear, localCommand_ready ready, begins], rfl, frame, marker, store,
      congrArg (Option.map _) txn, fun none => ?_⟩
    have same : endFrame .broken s = s := by simp [endFrame, none]
    simp [beginClear, same]
  · have result : clearResult run = some (if run.pbcAfter && run.pbdAfter then .cleared else .stillStuck) := by
      simp [clearResult, high]
    rw [exec_busClearEnd clearing result]
    rfl
  · have ends : pulseEnd 16 run.pulses = .stillStuck := by
      have := pulseEnd_replicate n (15 - n) ⟨false, b⟩ rest
      rw [show n + (15 - n) + 1 = 16 by omega] at this
      rw [pulses, this]
      rfl
    rw [exec_busClearEnd clearing (clearResult_pulses low ends)]
    rfl
  · have ends : pulseEnd 16 run.pulses = .pbdHigh := by
      have := pulseEnd_replicate n (15 - n) ⟨true, true⟩ rest
      rw [show n + (15 - n) + 1 = 16 by omega] at this
      rw [pulses, this]
      rfl
    rw [exec_busClearEnd clearing (clearResult_pulses low ends)]
    rfl
  · have ends : pulseEnd 16 run.pulses = .stillStuck := by rw [pulses]; exact pulseEnd_all 16
    rw [exec_busClearEnd clearing (clearResult_pulses low ends)]
    rfl

/-- Settles O41: the tick takes the first slot served from the pointer on. -/
theorem scrubTick : Obligations.ScrubTick := by
  refine ⟨fun s i n bus free within place serves before => ?_, fun s pending => ?_, fun s none => ?_⟩
  · subst place
    have found := scrubTarget_of within (serves_iff.mpr serves)
      fun m hm => Bool.eq_false_iff.mpr (mt serves_iff.mp (not_or.mpr (before m hm)))
    have ticks : Machine.scrubTick s = request .scrub ⟨s.scrubPtr + BitVec.toFin (BitVec.ofNat 6 n), .checkStep⟩
        { s with scrubPtr := s.scrubPtr + BitVec.toFin (BitVec.ofNat 6 n) + 1 } := by
      rw [Machine.scrubTick, if_pos ⟨bus, free⟩, found]
    obtain ⟨slots, store, pointer, granted, waits⟩ := request_checkStep
      (s := { s with scrubPtr := s.scrubPtr + BitVec.toFin (BitVec.ofNat 6 n) + 1 })
      (s.scrubPtr + BitVec.toFin (BitVec.ofNat 6 n))
    exact ⟨_, congrArg Host.Outcome.next ticks, pointer, slots, store, granted, waits⟩
  · have idle : Machine.scrubTick s = s := if_neg fun h => pending h.2
    rw [exec_scrubTick, idle]
  · have away : scrubTarget s = Option.none := by
      rw [scrubTarget, List.find?_eq_none]
      intro i _
      exact mt serves_iff.mp (not_or.mpr (none i))
    have idle : Machine.scrubTick s = s := by
      unfold Machine.scrubTick
      rw [away]
      split <;> rfl
    rw [exec_scrubTick, idle]

end Sys2Proof.Proofs
end

section
/-! The upkeep scheduler's choice, the frame it opens, and the head settled at its hand-over. -/

namespace Sys2Proof.Machine

/-! ### The choice -/

/-- A DOUBT slot comes first. -/
theorem choose_verify {s : State} {i : SlotIx} (due : firstSlot s Slot.dueVerify = some i) : choose s = .recovery .verify i := by
  simp [choose, due]

/-- Then a STALE slot, with PROT low. -/
theorem choose_resync {s : State} {i : SlotIx} (noVerify : firstSlot s Slot.dueVerify = none) (low : s.prot = false)
    (due : firstSlot s Slot.dueResync = some i) : choose s = .recovery .resync i := by
  simp [choose, noVerify, low, due]

/-- Then a damaged PRIMARY. -/
theorem choose_repair {s : State} {i : SlotIx} (noVerify : firstSlot s Slot.dueVerify = none) (low : s.prot = false)
    (noResync : firstSlot s Slot.dueResync = none) (due : firstSlot s Slot.dueRepair = some i) :
    choose s = .recovery .repair i := by
  simp [choose, noVerify, low, noResync, due]

/-- No slot is due for a recovery frame, or PROT keeps the loads back. -/
structure NoRecovery (s : State) : Prop where
  verify : firstSlot s Slot.dueVerify = none
  loads  : s.prot = true ∨ firstSlot s Slot.dueResync = none ∧ firstSlot s Slot.dueRepair = none

/-- No RESYNC is chosen. -/
theorem NoRecovery.resync {s : State} (h : NoRecovery s) : (if s.prot then none else firstSlot s Slot.dueResync) = none := by
  rcases h.loads with high | ⟨none, -⟩ <;> simp_all

/-- No REPAIR is chosen. -/
theorem NoRecovery.repair {s : State} (h : NoRecovery s) : (if s.prot then none else firstSlot s Slot.dueRepair) = none := by
  rcases h.loads with high | ⟨-, none⟩ <;> simp_all

/-- Without recovery the head decides. -/
theorem choose_of_head {s : State} {e : Entry} (h : NoRecovery s) (head : readyHead s = some e) : choose s = .head e := by
  simp only [choose, h.verify, h.resync, h.repair, head]

/-- Then an OFFER. -/
theorem choose_of_offer {s : State} {i : SlotIx} (h : NoRecovery s) (held : readyHead s = none)
    (due : firstSlot s Slot.dueOffer = some i) : choose s = .offer i := by
  simp only [choose, h.verify, h.resync, h.repair, held, due]

/-- Or nothing. -/
theorem choose_of_none {s : State} (h : NoRecovery s) (held : readyHead s = none) (due : firstSlot s Slot.dueOffer = none) :
    choose s = .none := by
  simp only [choose, h.verify, h.resync, h.repair, held, due]

/-- The head may be handed over with no DOUBT slot and no fault record. -/
theorem readyHead_of {s : State} {e : Entry} {rest : List Entry} (decided : anyDoubt s = false) (clear : s.faults = [])
    (queued : s.queue = e :: rest) : readyHead s = some e := by
  simp [readyHead, decided, clear, queued]

/-- It is held back otherwise. -/
theorem readyHead_held {s : State} (held : anyDoubt s = true ∨ s.faults ≠ [] ∨ s.queue = []) : readyHead s = none := by
  rcases held with doubt | faults | empty
  · simp [readyHead, doubt]
  · simp [readyHead, faults]
  · simp [readyHead, empty]

/-! ### The frame opened -/

/-- A frame is opened for an operation, and slots and store stay. -/
structure Opened (s t : State) (op : OpRef) (request : List Byte) : Prop where
  view  : t.view = .opening
  own   : t.own = some ⟨op, request⟩
  slots : t.slots = s.slots
  store : t.store = s.store

/-- A frame for upkeep work. -/
theorem openUpkeep_opened (k : Kind) (i : SlotIx) (s : State) :
    Opened s (openUpkeep k i s) (.upkeep k i)
      (requestBytes k s.straps.number ((s.slot i).page.getD 0) (versionBytes (s.slot i).version)) := by
  have kept : (beginUpkeep k i s).slots = s.slots ∧ (beginUpkeep k i s).store = s.store := by
    unfold beginUpkeep
    split
    · split
      · exact ⟨rfl, rfl⟩
      · exact ⟨endUpkeep_slots s, endUpkeep_store s⟩
    · exact ⟨rfl, rfl⟩
  exact ⟨rfl, rfl, kept.1, kept.2⟩

/-- A frame for the head. -/
theorem openEntry_opened (e : Entry) (fields : List Byte) (s : State) :
    Opened s (openEntry e fields s) .entry (requestBytes e.body.kind s.straps.number e.body.page fields) := by
  refine ⟨rfl, ?_, endUpkeep_slots s, endUpkeep_store s⟩
  simp [openEntry, drive, State.number]

/-- One opportunity of the scheduler, by its choice. -/
theorem schedule_recovery {s : State} {k : Kind} {i : SlotIx} (fuel : Nat) (chosen : choose s = .recovery k i) :
    schedule (fuel + 1) s = openUpkeep k i s := by
  simp [schedule, chosen]

/-- An OFFER. -/
theorem schedule_offer {s : State} {i : SlotIx} (fuel : Nat) (chosen : choose s = .offer i) :
    schedule (fuel + 1) s = openUpkeep .offer i s := by
  simp [schedule, chosen]

/-- Nothing. -/
theorem schedule_none {s : State} (fuel : Nat) (chosen : choose s = .none) : schedule (fuel + 1) s = s := by
  simp [schedule, chosen]

/-- The head's frame. -/
theorem schedule_frame {s : State} {e : Entry} {fields : List Byte} (fuel : Nat) (chosen : choose s = .head e)
    (test : handOver e s = .frame fields) : schedule (fuel + 1) s = openEntry e fields s := by
  simp [schedule, chosen, test]

/-- The head's snapshot. -/
theorem schedule_snapshot {s : State} {e : Entry} {i : SlotIx} (fuel : Nat) (chosen : choose s = .head e)
    (test : handOver e s = .snapshot i) : schedule (fuel + 1) s = request .handover ⟨i, .snapshot⟩ s := by
  simp [schedule, chosen, test]

/-- The head settled. -/
theorem schedule_settled {s : State} {e : Entry} {code : Code} (fuel : Nat) (chosen : choose s = .head e)
    (test : handOver e s = .settled code) : schedule (fuel + 1) s = schedule fuel (settleWithoutFrame code none [] s) := by
  simp [schedule, chosen, test]

/-! ### The hand-over tests -/

/-- The state of a page held here. -/
theorem pageState_of {s : State} {page : PageId} (held : stateFor page s ≠ .free) : pageState s page = some (stateFor page s) := by
  unfold stateFor at held ⊢
  unfold pageState
  cases found : lookup s page with
  | none => simp [found] at held
  | some i => rfl

/-- The state of a page not held here. -/
theorem pageState_none {s : State} {page : PageId} (away : stateFor page s = .free) : pageState s page = none := by
  unfold stateFor at away
  unfold pageState
  cases found : lookup s page with
  | none => rfl
  | some i => exact absurd (by simpa [found] using away) (lookup_some found).1

/-- ADOPT of a page that is not STALE. -/
theorem pageState_not_stale {s : State} {page : PageId} (other : stateFor page s ≠ .stale) : pageState s page ≠ some .stale := by
  by_cases away : stateFor page s = .free
  · simp [pageState_none away]
  · rw [pageState_of away]
    simpa using other

/-- RELEASE of a PRIMARY. -/
theorem handOverRelease_primary {s : State} {page : PageId} (held : stateFor page s = .primary) :
    handOverRelease page s = .frame [0x01] := by
  simp [handOverRelease, pageState_of (s := s) (page := page) (by simp [held]), held]

/-- RELEASE of a copy. -/
theorem handOverRelease_copy {s : State} {page : PageId} (held : stateFor page s = .mirror ∨ stateFor page s = .stale) :
    handOverRelease page s = .frame [0x02] := by
  rcases held with held | held <;>
    simp [handOverRelease, pageState_of (s := s) (page := page) (by simp [held]), held]

/-- RELEASE of anything else. -/
theorem handOverRelease_other {s : State} {page : PageId} (primary : stateFor page s ≠ .primary)
    (mirror : stateFor page s ≠ .mirror) (stale : stateFor page s ≠ .stale) : handOverRelease page s = .settled .notHeld := by
  unfold handOverRelease
  by_cases away : stateFor page s = .free
  · rw [pageState_none away]
  · rw [pageState_of away]
    cases held : stateFor page s <;> simp_all

/-- A READ of a page not served here. -/
theorem handOverRead_away {s : State} {page : PageId} (offset : Byte) (count : Nat) (primary : stateFor page s ≠ .primary)
    (mirror : stateFor page s ≠ .mirror) : handOverRead page offset count s = .frame [offset, countByte (count - 1)] := by
  have away : ((lookup s page).filter fun i => (s.slot i).state.serves) = none := by
    unfold stateFor at primary mirror
    cases found : lookup s page with
    | none => rfl
    | some i =>
      rw [found] at primary mirror
      simp [Option.filter, mt serves_iff.mp (not_or.mpr ⟨primary, mirror⟩)]
  simp only [handOverRead, away]

/-- A READ of a page served here. -/
theorem handOverRead_held {s : State} {page : PageId} {i : SlotIx} (offset : Byte) (count : Nat) (found : lookup s page = some i)
    (serves : (s.slot i).state.serves = true) :
    handOverRead page offset count s = if 128 < offset.toNat + count then .settled .range else .snapshot i := by
  have here : ((lookup s page).filter fun i => (s.slot i).state.serves) = some i := by simp [found, Option.filter, serves]
  simp only [handOverRead, here, Config.wordsPerPage]

/-- The slot of a page served here. -/
theorem lookup_of_stateFor {s : State} {page : PageId} (held : stateFor page s = .primary ∨ stateFor page s = .mirror) :
    ∃ i, lookup s page = some i ∧ (s.slot i).state.serves = true := by
  unfold stateFor at held
  cases found : lookup s page with
  | none => simp [found] at held
  | some i => exact ⟨i, rfl, serves_iff.mpr (by simpa [found] using held)⟩

/-! ### An opportunity -/

/-- The station as an opportunity finds it: PROT and the gap count read. -/
def atOpportunity (gap : Nat) (prot : Bool) (s : State) : State := { s with prot := prot, gap := gap }

/-- When the line unit may open a frame (R30). -/
theorem mayOpen_iff {s : State} : mayOpen s = true ↔ s.onBus = true ∧ s.view = .quiet ∧
    (if s.marker then 24 else 12) ≤ s.gap ∧ s.arbiter.busyFor .handover = false := by
  simp [mayOpen, neededGap, Config.ownGap, Config.quietGap, and_assoc]

/-- No frame is opened before the quiet gap. -/
theorem opportunity_early {gap : Nat} {prot : Bool} {s : State} (bus : s.onBus = true) (quiet : s.view = .quiet)
    (early : gap < if s.marker then 24 else 12) :
    exec (.frameOpportunity gap prot) s = .next (atOpportunity gap prot s) := by
  have waits : frameOpportunity gap (readProt prot s) = atOpportunity gap prot s := by
    have closed : mayOpen { readProt prot s with gap := gap } = false := Bool.eq_false_iff.mpr fun opens => by
      obtain ⟨-, -, due, -⟩ := mayOpen_iff.mp opens
      exact absurd due (Nat.not_le.mpr early)
    rw [frameOpportunity, if_pos (by exact ⟨bus, quiet⟩)]
    dsimp only
    rw [closed]
    rfl
  exact congrArg _ waits

/-- From the quiet gap on the scheduler is asked. -/
theorem opportunity_due {gap : Nat} {prot : Bool} {s : State} (bus : s.onBus = true) (quiet : s.view = .quiet)
    (free : s.arbiter.busyFor .handover = false) (due : (if s.marker then 24 else 12) ≤ gap) :
    exec (.frameOpportunity gap prot) s = .next (schedule (s.queue.length + 1) (atOpportunity gap prot s)) := by
  have asked : frameOpportunity gap (readProt prot s) = schedule (s.queue.length + 1) (atOpportunity gap prot s) := by
    have opens : mayOpen { readProt prot s with gap := gap } = true := mayOpen_iff.mpr ⟨bus, quiet, due, free⟩
    rw [frameOpportunity, if_pos (by exact ⟨bus, quiet⟩)]
    dsimp only
    rw [opens]
    rfl
  exact congrArg _ asked

/-! ### The head settled without a frame -/

/-- A head other than a WRITE leaves what its own records and slot leave. -/
theorem headEnds_keeps {α : Type} (f : State → α) (slot : ∀ i r u, f (State.setSlot u i r) = f u)
    (ended : ∀ e u, f (endEntry e u) = f u) (left : ∀ q u, f { u with queue := q } = f u)
    (filled : ∀ e c h st w u, f (fillResult e c h st w u) = f u) {e : Entry} (other : e.isWrite = false) (rest : List Entry)
    (code : Code) (holder : Option StationNo) (status : Option Bool) (words : List Word) (s : State) :
    f (headEnds e rest code holder status words s) = f s := by
  have before : f (endEntry e { s with queue := rest }) = f s := (ended _ _).trans (left _ _)
  have freed : f (if code = .granted then endEntry e { s with queue := rest } else freeClaim e (endEntry e { s with queue := rest })) =
      f s := by
    split
    · exact before
    · exact (freeClaim_keeps f slot _ _).trans before
  unfold headEnds
  dsimp only
  split
  · next body => simp [Entry.isWrite, body, EntryBody.kind] at other
  · exact (filled _ _ _ _ _ _).trans freed

/-- The flags a head settled at its hand-over takes. -/
def settledFlags : Code → BitVec 16
  | .prot => withFlag .prot 0
  | .damaged => withFlag .damaged 0
  | _ => 0

/-- What settles at the hand-over. -/
theorem settleWithoutFrame_eq {s : State} {e : Entry} {rest : List Entry} (queued : s.queue = e :: rest) (code : Code)
    (status : Option Bool) (words : List Word) :
    settleWithoutFrame code status words s =
      headEnds { e with gathered := e.gathered ||| settledFlags code } rest code none status words
        { s with outcome := ⟨settledFlags code, some e.identity, false⟩ } := by
  unfold settleWithoutFrame
  rw [queued]
  cases code <;> rfl

/-- The head settled at its hand-over: its result, its records and its slot. -/
theorem settleWithoutFrame_settled {s : State} {e : Entry} {rest : List Entry} (queued : s.queue = e :: rest)
    (other : e.isWrite = false) (code : Code) (status : Option Bool) (words : List Word) :
    let u := settleWithoutFrame code status words s
    ResultFilled s u e rest code none status words 0 ∧
      u.outcome = ⟨settledFlags code, some e.identity, true⟩ ∧
      u.accrued = s.accrued ||| accruedOf false (e.gathered ||| settledFlags code) ∧
      (code ≠ .granted → ClaimSlotFreed s u e) := by
  intro u
  obtain ⟨filled, ⟨outcome, accrued⟩, freed⟩ :=
    headEnds_other (s := { s with outcome := ⟨settledFlags code, some e.identity, false⟩ })
      (e := { e with gathered := e.gathered ||| settledFlags code }) rest code none status words other
  rw [← settleWithoutFrame_eq queued] at filled outcome accrued freed
  have same : Entry.identity { e with gathered := e.gathered ||| settledFlags code } = e.identity := rfl
  have kind : Entry.isWrite { e with gathered := e.gathered ||| settledFlags code } = false := other
  refine ⟨filled, ?_, ?_, freed⟩
  · simpa [same] using outcome
  · simpa [kind] using accrued

/-- What is left as it was. -/
theorem settleWithoutFrame_keeps {α : Type} (f : State → α) (slot : ∀ i r u, f (State.setSlot u i r) = f u)
    (ended : ∀ e u, f (endEntry e u) = f u) (left : ∀ q u, f { u with queue := q } = f u)
    (filled : ∀ e c h st w u, f (fillResult e c h st w u) = f u) (given : ∀ o u, f { u with outcome := o } = f u) {s : State}
    {e : Entry} {rest : List Entry} (queued : s.queue = e :: rest) (other : e.isWrite = false) (code : Code) (status : Option Bool)
    (words : List Word) : f (settleWithoutFrame code status words s) = f s := by
  rw [settleWithoutFrame_eq queued]
  exact (headEnds_keeps f slot ended left filled (by exact other) _ _ _ _ _ _).trans (given _ _)

/-- A snapshot asked of an idle store is taken at once (log 5). -/
theorem request_snapshot (c : Claimant) (i : SlotIx) {s : State} (idle : StoreIdle s) :
    request c ⟨i, .snapshot⟩ s = { s with arbiter := { Arbiter.idle with
      inProgress := some ⟨c, i, .snapshot, (s.slot i).page, (s.slot i).damaged, true⟩ } } := by
  rw [request_idle _ _ _ idle]
  simp only [grant, applyAccess]
  rw [show s.arbiter = Arbiter.idle from idle]

/-- Of an entry that gives up its slot every slot stays or is freed. -/
theorem slot_of_claimFreed {s u : State} {e : Entry} (h : ClaimSlotFreed s u e) (i : SlotIx) :
    u.slot i = s.slot i ∨ u.slot i = Slot.freed := by
  by_cases claims : ∃ page, e.body = .claim page .new (some i)
  · obtain ⟨page, body⟩ := claims
    by_cases claiming : (s.slot i).state = .claiming
    · exact Or.inr (h.1 i page body claiming)
    · exact Or.inl (h.2 i (Or.inr claiming))
  · exact Or.inl (h.2 i (Or.inl (not_exists.mp claims)))

/-- What no slot met, none meets then, where a freed slot does not. -/
theorem firstSlot_of_claimFreed {s u : State} {e : Entry} (h : ClaimSlotFreed s u e) {p : Slot → Bool} (freed : p Slot.freed = false)
    (none : firstSlot s p = none) : firstSlot u p = Option.none :=
  firstSlot_none.mpr fun i => by
    rcases slot_of_claimFreed h i with same | gone
    · rw [same]
      exact firstSlot_none.mp none i
    · rw [gone]
      exact freed

end Sys2Proof.Machine

namespace Sys2Proof.Proofs

open Sys2Proof.Machine

/-- Settles O39: the scheduler's order, and the request of the frame each choice opens. -/
theorem schedulerOpens : Obligations.SchedulerOpens := by
  intro gap prot s bus quiet free needed idle opened upkeep verify resync repair offer held
  refine ⟨opportunity_early bus quiet, fun due => ?_⟩
  have runs : ∀ {op : OpRef} {request : List Byte} {t : State},
      schedule (s.queue.length + 1) (atOpportunity gap prot s) = t → Opened (atOpportunity gap prot s) t op request →
      opened op request :=
    fun asked opens =>
      ⟨_, (opportunity_due bus quiet free due).trans (congrArg _ asked), opens.view, opens.own, opens.slots, opens.store⟩
  have recovers : ∀ k i, choose (atOpportunity gap prot s) = .recovery k i → upkeep k i := fun k i chosen =>
    runs (schedule_recovery _ chosen) (openUpkeep_opened k i (atOpportunity gap prot s))
  refine ⟨fun i h => recovers .verify i (choose_verify h), fun i none low h => recovers .resync i (choose_resync none low h),
    fun i none low noResync h => recovers .repair i (choose_repair none low noResync h),
    fun e rest noVerify loads decided clear queued => ?_, fun i noVerify loads back h => ?_, fun noVerify loads back h => ?_⟩
  · intro sent
    have still : NoRecovery (atOpportunity gap prot s) := ⟨noVerify, loads⟩
    have chosen : choose (atOpportunity gap prot s) = .head e := choose_of_head still (readyHead_of decided clear queued)
    have sends : ∀ {fields : List Byte}, handOver e (atOpportunity gap prot s) = .frame fields → sent e.body.page fields :=
      fun test => runs (schedule_frame _ chosen test) (openEntry_opened e _ (atOpportunity gap prot s))
    refine ⟨fun page offset data body => ?_, fun page slot body low => ?_, fun page slot body low stale => ?_,
      fun page body primary => ?_, fun page body copy => ?_, fun page offset count body primary mirror => ?_⟩
    all_goals
      have name : e.body.page = page := by rw [body]; rfl
      rw [← name]
      refine sends ?_
      simp only [handOver, body]
    · rfl
    · have low' : (atOpportunity gap prot s).prot = false := low
      simp [handOverClaim, low', ClaimMode.code]
    · have low' : (atOpportunity gap prot s).prot = false := low
      have copy : pageState (atOpportunity gap prot s) page = some .stale :=
        (pageState_of (s := s) (page := page) (by simp [stale])).trans (congrArg some stale)
      simp [handOverClaim, low', copy, ClaimMode.code]
    · exact handOverRelease_primary (s := atOpportunity gap prot s) primary
    · exact handOverRelease_copy (s := atOpportunity gap prot s) copy
    · exact handOverRead_away (s := atOpportunity gap prot s) offset count primary mirror
  · have still : NoRecovery (atOpportunity gap prot s) := ⟨noVerify, loads⟩
    exact runs (schedule_offer _ (choose_of_offer still (readyHead_held back) h)) (openUpkeep_opened .offer i (atOpportunity gap prot s))
  · have still : NoRecovery (atOpportunity gap prot s) := ⟨noVerify, loads⟩
    exact (opportunity_due bus quiet free due).trans
      (congrArg _ (schedule_none _ (choose_of_none still (readyHead_held back) h)))

/-- Settles O40: a head settled at its hand-over leaves the station as an opportunity finds it again, with the rest of the queue. -/
theorem handOverSettles : Obligations.HandOverSettles := by
  intro gap prot s e rest bus quiet free due queued clear decided loads opportunity settled
  have noVerify : firstSlot (atOpportunity gap prot s) Slot.dueVerify = none := firstSlot_none.mpr fun i => by
    have other : (s.slot i).state ≠ .doubt := anyDoubt_false.mp decided i
    show Slot.dueVerify (s.slot i) = false
    simp [Slot.dueVerify, other]
  have still : NoRecovery (atOpportunity gap prot s) :=
    ⟨noVerify, loads.imp id fun none => ⟨firstSlot_none.mpr fun i => (none i).1, firstSlot_none.mpr fun i => (none i).2⟩⟩
  have chosen : choose (atOpportunity gap prot s) = .head e := choose_of_head still (readyHead_of decided clear queued)
  have asked : ∀ {t : State}, schedule (s.queue.length + 1) (atOpportunity gap prot s) = t → opportunity s = .next t :=
    fun run => (opportunity_due bus quiet free due).trans (congrArg _ run)
  have settles : ∀ code, e.isWrite = false → code ≠ .granted → handOver e (atOpportunity gap prot s) = .settled code →
      settled code (settledFlags code) := fun code other denied test => by
    obtain ⟨filled, outcome, accrued, freed⟩ :=
      settleWithoutFrame_settled (s := atOpportunity gap prot s) queued other code none []
    have kept : ∀ {α : Type} (f : State → α), (∀ i r u, f (State.setSlot u i r) = f u) → (∀ e u, f (endEntry e u) = f u) →
        (∀ q u, f { u with queue := q } = f u) → (∀ e c h st w u, f (fillResult e c h st w u) = f u) →
        (∀ o u, f { u with outcome := o } = f u) →
        f (settleWithoutFrame code none [] (atOpportunity gap prot s)) = f (atOpportunity gap prot s) :=
      fun f slot ended left filled given => settleWithoutFrame_keeps (s := atOpportunity gap prot s) f slot ended left filled given queued other code none []
    have run := asked (schedule_settled _ chosen test)
    set u := settleWithoutFrame code none [] (atOpportunity gap prot s) with hu
    have view : u.view = .quiet := (kept (·.view) (fun _ _ _ => rfl) (fun _ _ => rfl) (fun _ _ => rfl) (fun _ _ _ _ _ _ => rfl)
      fun _ _ => rfl).trans quiet
    have bus' : u.onBus = true := (kept State.onBus (fun _ _ _ => rfl) (fun _ _ => rfl) (fun _ _ => rfl) (fun _ _ _ _ _ _ => rfl)
      fun _ _ => rfl).trans bus
    have free' : u.arbiter.busyFor .handover = false := (kept (fun u => u.arbiter.busyFor .handover) (fun _ _ _ => rfl)
      (fun _ _ => rfl) (fun _ _ => rfl) (fun _ _ _ _ _ _ => rfl) fun _ _ => rfl).trans free
    have marker : u.marker = s.marker := kept (·.marker) (fun _ _ _ => rfl) (fun _ _ => rfl) (fun _ _ => rfl)
      (fun _ _ _ _ _ _ => rfl) fun _ _ => rfl
    have pins : u.prot = prot ∧ u.gap = gap := ⟨kept (·.prot) (fun _ _ _ => rfl) (fun _ _ => rfl) (fun _ _ => rfl)
      (fun _ _ _ _ _ _ => rfl) fun _ _ => rfl, kept (·.gap) (fun _ _ _ => rfl) (fun _ _ => rfl) (fun _ _ => rfl)
      (fun _ _ _ _ _ _ => rfl) fun _ _ => rfl⟩
    have store : u.store = s.store := kept (·.store) (fun _ _ _ => rfl) (fun _ _ => rfl) (fun _ _ => rfl)
      (fun _ _ _ _ _ _ => rfl) fun _ _ => rfl
    have same : atOpportunity gap prot u = u := by
      simp only [atOpportunity, ← pins.1, ← pins.2]
    have left : u.queue = rest := filled.1
    have again : opportunity u = .next (schedule (rest.length + 1) u) := by
      refine (opportunity_due bus' view free' (by rw [marker]; exact due)).trans ?_
      rw [same, left]
    refine ⟨u, ?_, view, store, freed denied, filled, outcome, accrued, fun last noOffer => ?_⟩
    · rw [run, again, queued]
      rfl
    · have gone := freed denied
      have idle : NoRecovery u :=
        { verify := firstSlot_of_claimFreed gone rfl noVerify
          loads := still.loads.imp (fun high => pins.1.trans high) fun none =>
            ⟨firstSlot_of_claimFreed gone rfl none.1, firstSlot_of_claimFreed gone rfl none.2⟩ }
      have offer : firstSlot u Slot.dueOffer = none :=
        firstSlot_of_claimFreed gone rfl (firstSlot_none.mpr fun i => noOffer i)
      have nothing : choose u = .none := choose_of_none idle (readyHead_held (Or.inr (Or.inr (left.trans last)))) offer
      refine run.trans (congrArg _ ?_)
      rw [queued]
      exact schedule_none rest.length nothing
  refine ⟨fun page m slot body high => ?_, fun page slot body low stale => ?_, fun page body primary mirror stale => ?_,
    fun page offset count body held past => ?_, fun page offset count i body found held within idle => ?_⟩
  · have high' : (atOpportunity gap prot s).prot = true := high
    exact settles .prot (by simp [Entry.isWrite, body, EntryBody.kind]) (by decide) (by simp [handOver, body, handOverClaim, high'])
  · have low' : (atOpportunity gap prot s).prot = false := low
    have other := pageState_not_stale (s := atOpportunity gap prot s) stale
    exact settles .notHeld (by simp [Entry.isWrite, body, EntryBody.kind]) (by decide)
      (by simp [handOver, body, handOverClaim, low', other])
  · have gone := handOverRelease_other (s := atOpportunity gap prot s) primary mirror stale
    exact settles .notHeld (by simp [Entry.isWrite, body, EntryBody.kind]) (by decide) (by simp [handOver, body, gone])
  · obtain ⟨i, found, serves⟩ := lookup_of_stateFor (s := atOpportunity gap prot s) held
    have range := handOverRead_held offset count found serves
    exact settles .range (by simp [Entry.isWrite, body, EntryBody.kind]) (by decide) (by simp [handOver, body, range, past])
  · have snapshot := handOverRead_held (s := atOpportunity gap prot s) offset count found (serves_iff.mpr held)
    have test : handOver e (atOpportunity gap prot s) = .snapshot i := by
      simp only [handOver, body]
      rw [snapshot, if_neg (by omega)]
    refine asked ((schedule_snapshot _ chosen test).trans ?_)
    have quietStore : StoreIdle (atOpportunity gap prot s) := idle
    exact request_snapshot .handover i quietStore

end Sys2Proof.Proofs
end

section
/-! The records of an operation under flags added before its end: what the flags of a frame leave gathered, and what the end of the
operation makes of them. -/

namespace Sys2Proof.Machine

/-! ### Slots as a table -/

/-- Slots equal one by one are equal. -/
theorem slots_of_slot {s t : State} (h : ∀ i, t.slot i = s.slot i) : t.slots = s.slots :=
  Vector.ext fun i hi => h ⟨i, hi⟩

/-! ### An entry's flags -/

/-- An entry with flags gathered. -/
def Entry.flagged (e : Entry) (f : BitVec 16) : Entry := { e with gathered := e.gathered ||| f }

/-- No flag. -/
theorem flagged_zero (e : Entry) : e.flagged 0 = e := by simp [Entry.flagged]

/-- Flags after flags. -/
theorem flagged_flagged (e : Entry) (f g : BitVec 16) : (e.flagged f).flagged g = e.flagged (f ||| g) := by
  simp [Entry.flagged, BitVec.or_assoc]

/-- From `s` to `u` flags were added in a frame of the head in flight, and nothing else the records speak of has changed. -/
structure FlagsAdded (s u : State) (e : Entry) (rest : List Entry) (f : BitVec 16) : Prop where
  head    : HeadInFlight u (e.flagged f) rest
  own     : ∃ request, u.own = some ⟨.entry, request⟩
  outcome : u.outcome = { s.outcome with flags := s.outcome.flags ||| f }
  accrued : u.accrued = s.accrued
  result  : u.result = s.result
  faults  : u.faults = s.faults
  latches : u.latches = s.latches
  slots   : u.slots = s.slots

/-- No flag has been added yet. -/
theorem FlagsAdded.start {s : State} {e : Entry} {rest : List Entry} (own : ∃ request, s.own = some ⟨.entry, request⟩)
    (head : HeadInFlight s e rest) : FlagsAdded s s e rest 0 :=
  ⟨by rw [flagged_zero]; exact head, own, by simp, rfl, rfl, rfl, rfl, rfl⟩

/-- One flag more. -/
theorem FlagsAdded.add {s u : State} {e : Entry} {rest : List Entry} {f : BitVec 16} (h : FlagsAdded s u e rest f) (flag : Flag) :
    FlagsAdded s (addFlag flag u) e rest (f ||| withFlag flag 0) := by
  obtain ⟨request, own⟩ := h.own
  have head := addFlag_head flag own h.head
  rw [withFlag_or] at head
  refine ⟨?_, ⟨request, (addFlag_own flag u).trans own⟩, ?_, ?_, ?_, ?_, ?_, ?_⟩
  · rw [← flagged_flagged]
    exact head
  · simp only [addFlag, own]
    rw [modifyCurrent_outcome, h.outcome]
    simp only [withFlag_or flag (s.outcome.flags ||| f), BitVec.or_assoc]
  · simpa using h.accrued
  · simpa using h.result
  · simpa using h.faults
  · simpa using h.latches
  · simpa using h.slots

/-- One flag more on a condition. -/
theorem FlagsAdded.addIf {s u : State} {e : Entry} {rest : List Entry} {f : BitVec 16} (h : FlagsAdded s u e rest f) (b : Bool)
    (flag : Flag) : FlagsAdded s (addFlagIf b flag u) e rest (f ||| flagIf b flag) := by
  cases b with
  | false => simpa [addFlagIf, flagIf] using h
  | true => exact h.add flag

/-- A flag added first. -/
theorem FlagsAdded.one {s : State} {e : Entry} {rest : List Entry} (own : ∃ request, s.own = some ⟨.entry, request⟩)
    (head : HeadInFlight s e rest) (flag : Flag) : FlagsAdded s (addFlag flag s) e rest (withFlag flag 0) := by
  simpa using (FlagsAdded.start own head).add flag

/-! ### How the entry ends with them -/

/-- The entry's end takes the flags added before it. -/
theorem FlagsAdded.ended {s u t : State} {e : Entry} {rest : List Entry} {f : BitVec 16} (h : FlagsAdded s u e rest f)
    (ended : EntryEnded u t (e.flagged f) 0) : EntryEnded s t e f := by
  obtain ⟨outcome, accrued⟩ := ended
  rw [h.outcome] at outcome
  rw [h.accrued] at accrued
  exact ⟨by simpa [Entry.flagged, Entry.identity] using outcome, by simpa [Entry.flagged, Entry.isWrite] using accrued⟩

/-- The result record. -/
theorem FlagsAdded.filled {s u t : State} {e : Entry} {rest : List Entry} {f : BitVec 16} (h : FlagsAdded s u e rest f) {code : Code}
    {holder : Option StationNo} {status : Option Bool} {words : List Word} {l : BitVec 6}
    (filled : ResultFilled u t (e.flagged f) rest code holder status words l) :
    ResultFilled s t e rest code holder status words l := by
  obtain ⟨queue, faults, latches, result⟩ := filled
  exact ⟨queue, faults.trans h.faults, by rw [latches, h.latches], result⟩

/-- The fault record. -/
theorem FlagsAdded.failed {s u t : State} {e : Entry} {rest : List Entry} {f : BitVec 16} (h : FlagsAdded s u e rest f) {cause : Code}
    {l : BitVec 6} (failed : WriteFailed u t (e.flagged f) rest cause l) : WriteFailed s t e rest cause l := by
  obtain ⟨queue, result, latches, faults⟩ := failed
  exact ⟨queue, result.trans h.result, by rw [latches, h.latches], by rw [faults, h.faults]; rfl⟩

/-- The claimed slot. -/
theorem FlagsAdded.freed {s u t : State} {e : Entry} {rest : List Entry} {f : BitVec 16} (h : FlagsAdded s u e rest f)
    (freed : ClaimSlotFreed u t (e.flagged f)) : ClaimSlotFreed s t e := by
  have same : ∀ i, u.slot i = s.slot i := slot_congr h.slots
  refine ⟨fun i page body claiming => freed.1 i page body (by rw [same]; exact claiming), fun i other => ?_⟩
  rw [← same i]
  exact freed.2 i (by rw [same]; exact other)

/-- A counted attempt takes the flags added before it. -/
theorem FlagsAdded.counted {s u : State} {e : Entry} {rest : List Entry} {f : BitVec 16} (h : FlagsAdded s u e rest f) (cause : Code) :
    AttemptCounted s (countAttempt cause u) e rest f cause 0 := by
  obtain ⟨stays, fails⟩ := countAttempt_counted h.head cause
  refine ⟨fun few => ?_, fun last => ?_⟩
  · obtain ⟨queue, outcome, accrued, result, faults, latches⟩ := stays few
    refine ⟨by simpa [Entry.flagged] using queue, ?_, accrued.trans h.accrued, result.trans h.result, faults.trans h.faults, ?_⟩
    · rw [outcome, h.outcome]
      simp
    · rw [latches, h.latches]
  · obtain ⟨ended, filled, failed⟩ := fails last
    exact ⟨h.ended ended, fun other => h.filled (filled other), fun write => h.failed (failed write)⟩

/-- The slots at a counted attempt: as they were, but for the CLAIMING slot of an entry that fails finally. -/
theorem countAttempt_slots {s : State} {e : Entry} {rest : List Entry} (head : HeadInFlight s e rest) {cause : Code}
    (denied : cause ≠ .granted) :
    (e.attempts = 0 ∨ e.attempts = 1 → (countAttempt cause s).slots = s.slots) ∧
      (e.attempts = 2 → ClaimSlotFreed s (countAttempt cause s) e) := by
  rw [countAttempt_head head]
  refine ⟨fun few => ?_, fun last => ?_⟩
  · rcases few with few | few <;> simp [few]
  · rw [if_neg (by simp [last]), if_neg (by simp [last])]
    by_cases write : e.isWrite = true
    · have same : (headEnds { e with attempts := 3, inFlight := false } rest cause none none [] s).slots = s.slots := by
        cases body : e.body with
        | write p o ws => simp [headEnds, formRecord, pushFault, endEntry, State.setLatch]
        | read p o n => simp [Entry.isWrite, body, EntryBody.kind] at write
        | claim p m i => simp [Entry.isWrite, body, EntryBody.kind] at write
        | release p => simp [Entry.isWrite, body, EntryBody.kind] at write
      refine ⟨fun i page body => ?_, fun i _ => slot_congr same i⟩
      simp [Entry.isWrite, body, EntryBody.kind] at write
    · have other : e.isWrite = false := by simpa using write
      obtain ⟨-, -, freed⟩ := headEnds_other (s := s) (e := { e with attempts := 3, inFlight := false }) rest cause none none [] other
      exact freed denied

/-- The slots at a counted attempt with flags added before it. -/
theorem FlagsAdded.counted_slots {s u : State} {e : Entry} {rest : List Entry} {f : BitVec 16} (h : FlagsAdded s u e rest f)
    {cause : Code} (denied : cause ≠ .granted) :
    (e.attempts = 0 ∨ e.attempts = 1 → (countAttempt cause u).slots = s.slots) ∧
      (e.attempts = 2 → ClaimSlotFreed s (countAttempt cause u) e) := by
  obtain ⟨stays, fails⟩ := countAttempt_slots h.head denied
  exact ⟨fun few => (stays few).trans h.slots, fun last => h.freed (fails last)⟩

/-- An entry other than a WRITE completes. -/
theorem FlagsAdded.completed {s u : State} {e : Entry} {rest : List Entry} {f : BitVec 16} (h : FlagsAdded s u e rest f)
    (other : e.isWrite = false) (code : Code) (holder : Option StationNo) (status : Option Bool) (words : List Word) :
    ResultFilled s (completeEntry code holder status words u) e rest code holder status words 0 ∧
      EntryEnded s (completeEntry code holder status words u) e f ∧
      (code ≠ .granted → ClaimSlotFreed s (completeEntry code holder status words u) e) := by
  rw [completeEntry_head h.head]
  obtain ⟨filled, ended, freed⟩ := headEnds_other (s := u) rest code holder status words (e := e.flagged f) other
  exact ⟨h.filled filled, h.ended ended, fun denied => h.freed (freed denied)⟩

/-- A WRITE fails finally. -/
theorem FlagsAdded.refused {s u : State} {e : Entry} {rest : List Entry} {f : BitVec 16} (h : FlagsAdded s u e rest f)
    (write : e.isWrite = true) (cause : Code) :
    WriteFailed s (completeEntry cause none none [] u) e rest cause 0 ∧
      EntryEnded s (completeEntry cause none none [] u) e f := by
  rw [completeEntry_head h.head]
  obtain ⟨failed, ended⟩ := headEnds_write (s := u) rest cause none none [] (e := e.flagged f) write
  exact ⟨h.failed failed, h.ended ended⟩

/-- A WRITE completes APPLIED and leaves nothing. -/
theorem FlagsAdded.applied {s u : State} {e : Entry} {rest : List Entry} {f : BitVec 16} (h : FlagsAdded s u e rest f) :
    (completeApplied u).queue = rest ∧ (completeApplied u).faults = s.faults ∧ (completeApplied u).result = s.result ∧
      (completeApplied u).latches = s.latches ∧ EntryEnded s (completeApplied u) e f := by
  rw [completeApplied_head h.head]
  exact ⟨rfl, h.faults, h.result, h.latches, h.ended (endEntry_ended (e.flagged f) { u with queue := rest })⟩

/-- A latch set after a counted attempt. -/
theorem attemptCounted_latched {s t u : State} {e : Entry} {rest : List Entry} {f : BitVec 16} {cause : Code} {l : BitVec 6}
    (counted : AttemptCounted s u e rest f cause 0) (queue : t.queue = u.queue) (outcome : t.outcome = u.outcome)
    (accrued : t.accrued = u.accrued) (result : t.result = u.result) (faults : t.faults = u.faults)
    (latches : t.latches = u.latches ||| l) : AttemptCounted s t e rest f cause l := by
  unfold AttemptCounted EntryEnded ResultFilled WriteFailed
  rw [queue, outcome, accrued, result, faults, latches]
  obtain ⟨stays, fails⟩ := counted
  refine ⟨fun few => ?_, fun last => ?_⟩
  · obtain ⟨hq, ho, ha, hr, hf, hl⟩ := stays few
    exact ⟨hq, ho, ha, hr, hf, by rw [hl]; simp⟩
  · obtain ⟨ended, filled, failed⟩ := fails last
    refine ⟨ended, fun other => ?_, fun write => ?_⟩
    · obtain ⟨hq, hf, hl, hr⟩ := filled other
      exact ⟨hq, hf, by rw [hl]; simp, hr⟩
    · obtain ⟨hq, hr, hl, hf⟩ := failed write
      exact ⟨hq, hr, by rw [hl]; simp, hf⟩

/-! ### An upkeep operation's flags -/

/-- No flag has been added yet. -/
theorem upkeepGoesOn_none (s : State) : UpkeepGoesOn s s 0 := by
  refine ⟨?_, by simp, rfl, rfl, rfl, rfl⟩
  cases s.upkeep <;> simp

/-- The operation ends with the flags added before. -/
theorem upkeepEnded_after {s u t : State} {f : BitVec 16} (goes : UpkeepGoesOn s u f) (ended : UpkeepEnded u t 0) :
    UpkeepEnded s t f := by
  obtain ⟨op, outcome, accrued, queue, result, faults⟩ := goes
  obtain ⟨op', outcome', accrued', queue', result', faults'⟩ := ended
  refine ⟨op', ?_, ?_, queue'.trans queue, result'.trans result, faults'.trans faults⟩
  · rw [outcome', outcome, op]
    cases s.upkeep <;> simp [UpkeepOp.identity]
  · rw [accrued', accrued, op]
    cases s.upkeep <;> simp

/-- It goes on with the flags of both. -/
theorem upkeepGoesOn_after {s u t : State} {f g : BitVec 16} (goes : UpkeepGoesOn s u f) (on : UpkeepGoesOn u t g) :
    UpkeepGoesOn s t (f ||| g) := by
  obtain ⟨op, outcome, accrued, queue, result, faults⟩ := goes
  obtain ⟨op', outcome', accrued', queue', result', faults'⟩ := on
  refine ⟨?_, ?_, accrued'.trans accrued, queue'.trans queue, result'.trans result, faults'.trans faults⟩
  · rw [op', op]
    cases s.upkeep <;> simp [BitVec.or_assoc]
  · rw [outcome', outcome]
    simp [BitVec.or_assoc]

/-- A try with the flags added before. -/
theorem upkeepTried_after {s u t : State} {d : Slot} {f : BitVec 16} (goes : UpkeepGoesOn s u f) (tried : UpkeepTried u t d 0) :
    UpkeepTried s t d f := by
  refine ⟨fun few => ?_, fun zero one => upkeepEnded_after goes (tried.2 zero one)⟩
  simpa using upkeepGoesOn_after goes (tried.1 few)

end Sys2Proof.Machine
end

section
/-! The end of a store access, and the frames that end without their closing. -/

namespace Sys2Proof.Machine

/-! ### The end of an access -/

/-- STORE_ACCESS_END. -/
theorem exec_storeAccessEnd (s : State) : exec .storeAccessEnd s = .next (accessEnd s) := rfl

/-- The access in progress ends: its claimant acts, and the next is granted. -/
theorem accessEnd_running {s : State} {a : Access} (running : s.arbiter.inProgress = some a) :
    accessEnd s = grantNext (claimantActs a (s.withArbiter { s.arbiter with inProgress := none })) := by
  simp [accessEnd, running]

/-- An access whose need has gone ends for nobody. -/
theorem accessEnd_disowned {s : State} {c : Claimant} {i : SlotIx} {k : AccessKind} {page : Option PageId} {mark : Bool}
    (running : s.arbiter.inProgress = some ⟨c, i, k, page, mark, false⟩) :
    accessEnd s = grantNext (s.withArbiter { s.arbiter with inProgress := none }) := by
  simp [accessEnd_running running, claimantActs]

/-- The arbiter set last stands. -/
theorem withArbiter_withArbiter (s : State) (a b : Arbiter) : (s.withArbiter a).withArbiter b = s.withArbiter b := rfl

/-- Nothing waits. -/
theorem grantNext_idle {s : State} (idle : StoreIdle s) : grantNext s = s := by
  simp [grantNext, idle, Arbiter.idle]

/-- An access runs. -/
theorem grantNext_running {s : State} (running : s.arbiter.inProgress.isSome = true) : grantNext s = s := by
  obtain ⟨a, h⟩ := Option.isSome_iff_exists.mp running
  simp [grantNext, h]

/-- The check step's comparison. -/
theorem scrubMatches_iff {i : SlotIx} {s : State} :
    scrubMatches i s = true ↔ pageCheck (s.slot i).version (s.store.page i) = (s.slot i).check := by
  simp [scrubMatches]

/-- A check step that finds agreement, another page or a slot that is not scrubbed changes nothing. -/
theorem checkStepEnds_quiet {i : SlotIx} {page : Option PageId} {s : State}
    (quiet : pageCheck (s.slot i).version (s.store.page i) = (s.slot i).check ∨ (s.slot i).page ≠ page ∨
      ((s.slot i).state ≠ .mirror ∧ ((s.slot i).state ≠ .primary ∨ (s.slot i).damaged = true))) :
    checkStepEnds i page s = s := by
  unfold checkStepEnds
  dsimp only
  split
  · rfl
  · next differs =>
    have other : (s.slot i).state ≠ .mirror ∧ ((s.slot i).state ≠ .primary ∨ (s.slot i).damaged = true) := by
      simp only [Bool.or_eq_true, scrubMatches_iff, bne_iff_ne, not_or, not_not] at differs
      exact (quiet.resolve_left differs.1).resolve_left (not_not.mpr differs.2)
    split
    · next mirror => exact absurd mirror other.1
    · next primary =>
      rw [if_pos (other.2.resolve_left (not_not.mpr primary))]
    · rfl

/-- A mismatch at a MIRROR. -/
theorem checkStepEnds_mirror {i : SlotIx} {page : Option PageId} {s : State}
    (differs : pageCheck (s.slot i).version (s.store.page i) ≠ (s.slot i).check) (same : (s.slot i).page = page)
    (mirror : (s.slot i).state = .mirror) :
    checkStepEnds i page s = reportDamage (becomeStale i (s.slot i).partner s) := by
  have mismatch : scrubMatches i s = false := Bool.eq_false_iff.mpr (mt scrubMatches_iff.mp differs)
  simp [checkStepEnds, mismatch, same, mirror]

/-- A mismatch at an undamaged PRIMARY. -/
theorem checkStepEnds_primary {i : SlotIx} {page : Option PageId} {s : State}
    (differs : pageCheck (s.slot i).version (s.store.page i) ≠ (s.slot i).check) (same : (s.slot i).page = page)
    (primary : (s.slot i).state = .primary) (sound : (s.slot i).damaged = false) :
    checkStepEnds i page s = reportDamage (markDamaged i s) := by
  have mismatch : scrubMatches i s = false := Bool.eq_false_iff.mpr (mt scrubMatches_iff.mp differs)
  simp [checkStepEnds, mismatch, same, primary, sound]

/-! ### Snapshots for the port and the hand-over -/

/-- With the store idle the next part leaves nothing more to grant. -/
theorem grantNext_nextPartDue {s : State} (idle : StoreIdle s) : grantNext (nextPartDue s) = nextPartDue s := by
  cases txn : s.txn with
  | none =>
    have same : nextPartDue s = s := by simp [nextPartDue, txn]
    rw [same, grantNext_idle idle]
  | some t =>
    cases todo : t.todo with
    | nil => rw [nextPartDue_nil txn todo, grantNext_idle idle]
    | cons p ps =>
      rw [nextPartDue_cons txn todo]
      unfold partDue
      split
      · exact grantNext_idle (by exact idle)
      · rw [request_snapshot .port _ (by exact idle)]
        exact grantNext_running rfl

/-- The slot still serves the page. -/
theorem holdsServing_iff {s : State} {i : SlotIx} {page : PageId} :
    holdsServing s i page = true ↔ ((s.slot i).state = .primary ∨ (s.slot i).state = .mirror) ∧ (s.slot i).page = some page := by
  simp [holdsServing, serves_iff]

/-- A READ served at its hand-over leaves its record alone. -/
theorem headEnds_read {e : Entry} {page : PageId} {offset : Byte} {count : Nat} (body : e.body = .read page offset count)
    (rest : List Entry) (code : Code) (holder : Option StationNo) (status : Option Bool) (words : List Word) (s : State) :
    headEnds e rest code holder status words s = fillResult e code holder status words (endEntry e { s with queue := rest }) := by
  simp [headEnds, body, freeClaim]

/-! ### Frames that do not close -/

/-- BREAK_OFF. -/
theorem exec_breakOff_inFrame {s : State} {r : FrameRecord} (cause : BreakCause) (inFrame : s.frame = some r) :
    exec (.breakOff cause) s =
      .next { dropFrame r (frameEffects .broken r s) with gap := BreakCause.gapAfter cause } := by
  have breaks : breakOff cause s = { dropFrame r (frameEffects .broken r s) with gap := BreakCause.gapAfter cause } := by
    simp [breakOff, endFrame, inFrame]
  exact congrArg _ breaks

/-- STUCK_BUS in a view that sees it. -/
theorem exec_stuckBus_seen {s : State} (bus : s.onBus = true) (sees : s.view.seesStuck = true ∨ s.view = .stuck ∧ s.stuck ≤ 2048) :
    exec .stuckBus s =
      .next ({ endFrame .stuck s with view := .stuck, gap := 0, stuck := Config.stuckLimit + 1 }.setLatch .link) := by
  have detects : detectsStuck s = true := by
    rcases sees with sees | ⟨stuck, low⟩
    · simp [detectsStuck, bus, sees]
    · simp [detectsStuck, bus, stuck, low, Config.stuckLimit]
  have stuck : stuckBus s = { endFrame .stuck s with view := .stuck, gap := 0, stuck := Config.stuckLimit + 1 }.setLatch .link :=
    if_pos detects
  exact congrArg _ stuck

/-- With no frame in progress none ends. -/
theorem endFrame_none {s : State} (how : FrameEnding) (none : s.frame = none) : endFrame how s = s := by
  simp [endFrame, none]

/-- The frame in progress ends. -/
theorem endFrame_some {s : State} {r : FrameRecord} (how : FrameEnding) (inFrame : s.frame = some r) :
    endFrame how s = dropFrame r (frameEffects how r s) := by
  simp [endFrame, inFrame]

/-- Without an INCOMING slot none is dropped. -/
theorem dropIncoming_none {r : FrameRecord} (none : r.incoming = none) (s : State) : dropIncoming r s = s := by
  simp [dropIncoming, none]

/-- The INCOMING slot is freed. -/
theorem dropIncoming_some {r : FrameRecord} {i : SlotIx} {s : State} (incoming : r.incoming = some i)
    (state : (s.slot i).state = .incoming) : dropIncoming r s = reportRole false (freeSlot i s) := by
  simp [dropIncoming, incoming, state]

/-- A slot freed, and the others. -/
theorem freeSlot_slot (i j : SlotIx) (s : State) : (freeSlot i s).slot j = if j = i then Slot.freed else s.slot j := by
  have same : (freeSlot i s).slots = (s.setSlot i Slot.freed).slots := by
    unfold freeSlot
    dsimp only
    split
    · split
      · exact endUpkeep_slots _
      · rfl
    · rfl
  rw [slot_congr same, slot_setSlot]

/-- The station's own break-off of its entry's frame. -/
theorem frameEffects_entry {s : State} {r : FrameRecord} {how : FrameEnding} {stuck : Bool}
    (broken : how = if stuck then .stuck else .broken) (origin : Originates s r .entry) (incoming : r.incoming = none)
    (closed : r.closed = false) :
    frameEffects how r s = breakOperation .entry r (breakCode stuck) (addFlag (breakFlag stuck) s) := by
  obtain ⟨part, request, own⟩ := origin
  have reads : ¬ (r.part = .onlooker ∨ r.closed = true) := by simp [part, closed]
  have opened : r.opened = true := by simp [FrameRecord.opened, part]
  have breaks : breakFrame stuck r s = breakOperation .entry r (breakCode stuck) (addFlag (breakFlag stuck) s) := by
    simp [breakFrame, dropIncoming_none incoming, own, opened]
  subst broken
  unfold frameEffects
  rw [if_neg reads]
  cases stuck <;> exact breaks

/-- A CLAIM, RELEASE or READ that has not completed counts a try. -/
theorem breakOperation_try {s : State} {r : FrameRecord} (c : Code)
    (kind : r.kindCode = some Kind.claim.code ∨ r.kindCode = some Kind.release.code ∨ r.kindCode = some Kind.read.code)
    (open' : r.answerCheck ≠ some true) : breakOperation .entry r c s = countAttempt (breakCause r c) s := by
  rcases kind with code | code | code <;>
    simp [breakOperation, kind_of_code code, breakRead, open']

/-- The status a WRITE's byte reads APPLIED. -/
theorem writeStatus_applied (b : Byte) : (writeStatus b == .applied) = (b &&& 0x7F == 0x01) := by
  unfold writeStatus
  dsimp only
  generalize b &&& 0x7F = c
  by_cases applied : c = 0x01
  · rw [if_pos applied, applied]
    rfl
  · rw [if_neg applied, beq_eq_false_iff_ne.mpr applied]
    split
    · rfl
    · split
      · rfl
      · split <;> rfl

/-- The flags an APPLIED write adds by its final bits (R90). -/
def FrameRecord.finalFlags (r : FrameRecord) : BitVec 16 :=
  flagIf r.hold .staleMirror ||| flagIf (r.settledByte.any (fun b => b.msb) && !r.ack && !r.hold) .unmirrored

/-- They are gathered by the entry. -/
theorem FlagsAdded.final {s u : State} {e : Entry} {rest : List Entry} {f : BitVec 16} (h : FlagsAdded s u e rest f)
    (r : FrameRecord) : FlagsAdded s (appliedFlags r u) e rest (f ||| r.finalFlags) := by
  have both := (h.addIf r.hold .staleMirror).addIf (r.settledByte.any mirroredFlag && !r.ack && !r.hold) .unmirrored
  rw [BitVec.or_assoc] at both
  exact both

/-- Whether the originator of a WRITE knows of the application, field by field. -/
theorem knowsApplied_eq (r : FrameRecord) (s : State) : knowsApplied r s =
    ((if r.contest == .won && (r.alone || r.answer.isEmpty) then
        r.status.any (fun b => b &&& 0x7F == 0x01) && s.arbiter.frame.isNone
      else r.answer.head?.any fun b => b &&& 0x7F == 0x01) && r.answerCheck != some false) := by
  have decides : r.decidesItself = (r.contest == .won && (r.alone || r.answer.isEmpty)) := by
    cases answer : r.answer <;> simp [FrameRecord.decidesItself, FrameRecord.holds, FrameRecord.statusByte, answer]
  have answered : r.answeredApplied = r.status.any fun b => b &&& 0x7F == 0x01 := by
    simp only [FrameRecord.answeredApplied, writeStatus_applied]
  have read : r.readApplied = r.answer.head?.any fun b => b &&& 0x7F == 0x01 := by
    unfold FrameRecord.readApplied FrameRecord.statusByte
    cases r.answer.head? with
    | none => rfl
    | some b => simp only [writeStatus_applied, Option.any_some]
  rw [knowsApplied, decides, answered, read]
  rfl

/-- The flag a broken-off WRITE adds first leaves what its originator knows. -/
theorem knowsApplied_addFlag (r : FrameRecord) (f : Flag) (s : State) : knowsApplied r (addFlag f s) = knowsApplied r s := by
  rw [knowsApplied_eq, knowsApplied_eq, addFlag_arbiter]

/-- The originator's WRITE breaks off. -/
theorem breakOperation_write {s : State} {r : FrameRecord} {e : Entry} {rest : List Entry} (f : Flag) (c : Code)
    (own : ∃ request, s.own = some ⟨.entry, request⟩) (head : HeadInFlight s e rest)
    (code : r.kindCode = some Kind.write.code) (valid : r.voidRead = false) :
    WriteBroken s (breakOperation .entry r c (addFlag f s)) r e rest f c 0 := by
  have flags := FlagsAdded.one own head f
  have breaks : breakOperation .entry r c (addFlag f s) = breakWrite r c (addFlag f s) := by
    simp [breakOperation, kind_of_code code]
  rw [breaks]
  unfold WriteBroken
  intro isApplied decides applied settled finals
  have knows : knowsApplied r (addFlag f s) = (applied && r.answerCheck != some false) :=
    (knowsApplied_addFlag r f s).trans (knowsApplied_eq r s)
  refine ⟨fun known good => ?_, fun unknown open' => ?_, fun bad => ?_⟩
  · have completes : breakWrite r c (addFlag f s) = completeApplied (if r.fieldsDone then appliedFlags r (addFlag f s) else addFlag f s) := by
      rw [breakWrite, if_pos ⟨valid, by simp [knows, known, good]⟩]
    have gathered : FlagsAdded s (if r.fieldsDone then appliedFlags r (addFlag f s) else addFlag f s) e rest
        (withFlag f 0 ||| finals) := by
      by_cases done : r.point = .over ∨ r.point = .past
      · have all : finals = r.finalFlags := if_pos done
        rw [if_pos (by simpa [FrameRecord.fieldsDone] using done), all]
        exact flags.final r
      · have none : finals = 0 := if_neg done
        rw [if_neg (by simpa [FrameRecord.fieldsDone] using done), none]
        simpa using flags
    obtain ⟨queue, faults, result, latches, ended⟩ := gathered.applied
    rw [completes]
    exact ⟨queue, faults, result, by rw [latches]; simp, ended⟩
  · have counts : breakWrite r c (addFlag f s) = countAttempt c (addFlag f s) := by
      simp [breakWrite, knows, unknown, open', breakCause, valid]
    rw [counts]
    exact flags.counted c
  · have counts : breakWrite r c (addFlag f s) = countAttempt .answerBad (addFlag f s) := by
      simp [breakWrite, knows, bad, breakCause, valid]
    rw [counts]
    exact flags.counted .answerBad

/-- A latch set after a WRITE has broken off. -/
theorem writeBroken_latched {s t u : State} {r : FrameRecord} {e : Entry} {rest : List Entry} {f : Flag} {c : Code} {l : BitVec 6}
    (broken : WriteBroken s u r e rest f c 0) (queue : t.queue = u.queue) (outcome : t.outcome = u.outcome)
    (accrued : t.accrued = u.accrued) (result : t.result = u.result) (faults : t.faults = u.faults)
    (latches : t.latches = u.latches ||| l) : WriteBroken s t r e rest f c l := by
  obtain ⟨known, unknown, bad⟩ := broken
  refine ⟨fun applied good => ?_, fun not open' => attemptCounted_latched (unknown not open') queue outcome accrued result faults latches,
    fun found => attemptCounted_latched (bad found) queue outcome accrued result faults latches⟩
  obtain ⟨hq, hf, hr, hl, ho, ha⟩ := known applied good
  exact ⟨queue.trans hq, faults.trans hf, result.trans hr, by rw [latches, hl]; simp, outcome.trans ho, accrued.trans ha⟩

/-- What a frame of an entry that does not close leaves at its originator. -/
structure EntryBroken (s v : State) (r : FrameRecord) (e : Entry) (rest : List Entry) (f : Flag) (c : Code) : Prop where
  store : v.store = s.store
  tried : r.kindCode = some Kind.claim.code ∨ r.kindCode = some Kind.release.code ∨ r.kindCode = some Kind.read.code →
    r.answerCheck ≠ some true →
    AttemptCounted s v e rest (withFlag f 0) (if r.voidRead then .void else if r.answerCheck = some false then .answerBad else c) 0 ∧
      (e.attempts = 0 ∨ e.attempts = 1 → v.slots = s.slots) ∧ (e.attempts = 2 → ClaimSlotFreed s v e)
  write : r.kindCode = some Kind.write.code → r.voidRead = false → WriteBroken s v r e rest f c 0

/-- Broken off, or abandoned on a stuck bus. -/
theorem entryBroken {s : State} {r : FrameRecord} {e : Entry} {rest : List Entry} {how : FrameEnding} {stuck : Bool}
    (broken : how = if stuck then .stuck else .broken) (origin : Originates s r .entry) (head : HeadInFlight s e rest)
    (incoming : r.incoming = none) (closed : r.closed = false) :
    EntryBroken s (frameEffects how r s) r e rest (breakFlag stuck) (breakCode stuck) := by
  have flags := FlagsAdded.one origin.2 head (breakFlag stuck)
  refine ⟨(frameEffects_effects how r s).undisturbed.store, fun kind open' => ?_, fun code valid => ?_⟩
  · rw [frameEffects_entry broken origin incoming closed, breakOperation_try _ kind open']
    have denied : breakCause r (breakCode stuck) ≠ .granted := by
      unfold breakCause
      split
      · decide
      · split
        · decide
        · cases stuck <;> decide
    exact ⟨flags.counted _, flags.counted_slots denied⟩
  · rw [frameEffects_entry broken origin incoming closed]
    exact breakOperation_write _ _ origin.2 head code valid

/-- A frame that breaks off at a station that did not open it, without an INCOMING slot, changes nothing. -/
theorem frameEffects_reader {s : State} {r : FrameRecord} (part : r.part = .participant) (incoming : r.incoming = none) :
    frameEffects .broken r s = s :=
  (frameEffects_participant (by decide) (by simp [FrameRecord.opened, part])).elim id fun drops =>
    drops.trans (dropIncoming_none incoming s)

end Sys2Proof.Machine

namespace Sys2Proof.Proofs

open Sys2Proof.Machine

/-- Settles O42: a check step by what it finds, and the next grant by the order of the claimants. -/
theorem storeAccessEnds : Obligations.StoreAccessEnds := by
  refine ⟨fun s i page mark running => ?_, fun s c i k page mark running => ?_⟩
  · intro d agrees found
    have ends : exec .storeAccessEnd s =
        .next (grantNext (checkStepEnds i page (s.withArbiter { s.arbiter with inProgress := none }))) := by
      rw [exec_storeAccessEnd, accessEnd_running running]
      rfl
    refine ⟨fun differs same mirror => ?_, fun differs same primary sound alone => ?_, fun differs same primary sound partnered => ?_,
      fun quiet => ?_⟩
    · refine ⟨_, ends, ?_⟩
      rw [checkStepEnds_mirror (by exact differs) (by exact same) (by exact mirror)]
      exact ⟨rfl, rfl, slot_setSlot_same _ i _, fun j other => slot_setSlot_ne _ _ other, rfl, rfl⟩
    · refine ⟨_, ends, ?_⟩
      rw [checkStepEnds_primary (by exact differs) (by exact same) (by exact primary) (by exact sound)]
      refine ⟨rfl, rfl, (slot_setSlot_same _ i _).trans ?_, fun j other => slot_setSlot_ne _ _ other, rfl, rfl⟩
      exact if_neg (Option.not_isSome_iff_eq_none.mpr alone)
    · refine ⟨_, ends, ?_⟩
      rw [checkStepEnds_primary (by exact differs) (by exact same) (by exact primary) (by exact sound)]
      refine ⟨rfl, rfl, (slot_setSlot_same _ i _).trans ?_, fun j other => slot_setSlot_ne _ _ other, rfl, rfl⟩
      exact if_pos (Option.isSome_iff_ne_none.mpr partnered)
    · rw [ends, checkStepEnds_quiet (by exact quiet)]
  · rw [exec_storeAccessEnd, accessEnd_disowned running]
    refine ⟨fun q frame => ?_, fun q frame handover => ?_, fun q frame handover port => ?_, fun q frame handover port scrub => ?_,
      fun frame handover port scrub => ?_⟩
    · simp_all [grantNext, withArbiter_withArbiter]
    · simp_all [grantNext, withArbiter_withArbiter]
    · simp_all [grantNext, withArbiter_withArbiter]
    · simp_all [grantNext, withArbiter_withArbiter]
    · have idle : StoreIdle (s.withArbiter { s.arbiter with inProgress := none }) := by
        simp_all [StoreIdle, Arbiter.idle]
      rw [grantNext_idle idle, ← idle]
      rfl

/-- Settles O43: the port's part and the READ of the hand-over by the slot as it stands at the snapshot's end. -/
theorem snapshotResults : Obligations.SnapshotResults := by
  refine ⟨fun s t i p page mark arbiter txn awaiting => ?_, fun s i pg mark e rest page offset count arbiter queued body => ?_⟩
  · intro d held ended answers
    have idle : ∀ x, StoreIdle { s.withArbiter Arbiter.idle with txn := x } := fun _ => rfl
    have ends : ∀ part : ReplyPart, (if holdsServing s i p.page then
          (⟨if mark then .damaged else .ok, partData p (s.store.page i), true⟩ : ReplyPart)
        else ⟨.notHeld, notHeldData p, true⟩) = part →
        exec .storeAccessEnd s = .next (nextPartDue
          { s.withArbiter Arbiter.idle with txn := some { t with awaiting := none, ready := t.ready ++ [part] } }) :=
      fun part found => by
        have acts : claimantActs ⟨.port, i, .snapshot, page, mark, true⟩ (s.withArbiter { s.arbiter with inProgress := none }) =
            nextPartDue { s.withArbiter Arbiter.idle with txn := some { t with awaiting := none, ready := t.ready ++ [part] } } := by
          have here : holdsServing (s.withArbiter { s.arbiter with inProgress := none }) i p.page = holdsServing s i p.page := rfl
          simp only [claimantActs, if_true, portSnapshotEnds, withArbiter_txn, txn, awaiting, here]
          rw [← found, arbiter]
          rfl
        rw [exec_storeAccessEnd, accessEnd_running (by rw [arbiter]), acts, grantNext_nextPartDue (idle _)]
    have answered : ∀ st data, (if holdsServing s i p.page then
          (⟨if mark then .damaged else .ok, partData p (s.store.page i), true⟩ : ReplyPart)
        else ⟨.notHeld, notHeldData p, true⟩) = ⟨st, data, true⟩ → answers st data := fun st data found =>
      ⟨ends _ found, fun last => (ends _ found).trans (congrArg _ (nextPartDue_nil rfl last))⟩
    exact ⟨fun here => answered _ _ (if_pos (holdsServing_iff.mpr here)),
      fun away => answered _ _ (if_neg (mt holdsServing_iff.mp away))⟩
  · intro d held
    have ends : exec .storeAccessEnd s = .next (grantNext (handoverSnapshotEnds i mark (s.withArbiter Arbiter.idle))) := by
      rw [exec_storeAccessEnd, accessEnd_running (by rw [arbiter])]
      simp [claimantActs, arbiter, Arbiter.idle]
    have other : e.isWrite = false := by simp [Entry.isWrite, body, EntryBody.kind]
    refine ⟨fun here => ?_, fun away => ?_⟩
    · have served : handoverSnapshotEnds i mark (s.withArbiter Arbiter.idle) =
          settleWithoutFrame (if mark then .damaged else .ok) (some mark) (((s.store.page i).drop offset.toNat).take count)
            (s.withArbiter Arbiter.idle) := by
        have serves : holdsServing (s.withArbiter Arbiter.idle) i page = true := holdsServing_iff.mpr here
        simp [handoverSnapshotEnds, queued, body, serves]
      obtain ⟨⟨queue, faults, latches, result⟩, outcome, accrued, -⟩ := settleWithoutFrame_settled
        (s := s.withArbiter Arbiter.idle) queued other (if mark then .damaged else .ok) (some mark)
        (((s.store.page i).drop offset.toNat).take count)
      have left : settleWithoutFrame (if mark then .damaged else .ok) (some mark) (((s.store.page i).drop offset.toNat).take count)
            (s.withArbiter Arbiter.idle) = _ :=
        (settleWithoutFrame_eq (s := s.withArbiter Arbiter.idle) queued _ _ _).trans (headEnds_read (by exact body) _ _ _ _ _ _)
      have flags : settledFlags (if mark then .damaged else .ok) = flagIf mark .damaged := by cases mark <;> rfl
      rw [flags] at outcome accrued
      rw [← served] at queue latches result outcome accrued left
      refine ⟨_, ends.trans (congrArg _ (grantNext_idle ?_)), queue, ?_, ?_, ?_, ?_, ⟨outcome, accrued⟩, ?_⟩
      · rw [left]; rfl
      · rw [left]; rfl
      · rw [left]; rfl
      · rw [left]; rfl
      · rw [latches]; simp
      · rw [result]; simp [body, EntryBody.kind, EntryBody.mode, EntryBody.page]
    · have gone : handoverSnapshotEnds i mark (s.withArbiter Arbiter.idle) = s.withArbiter Arbiter.idle := by
        have elsewhere : holdsServing (s.withArbiter Arbiter.idle) i page = false :=
          Bool.eq_false_iff.mpr (mt holdsServing_iff.mp away)
        simp [handoverSnapshotEnds, queued, body, elsewhere]
      rw [ends, gone, grantNext_idle rfl]

/-- Settles O36: the line's own rows, and a stuck bus with and without a frame of the station's own. -/
theorem betweenFramesAndStuck : Obligations.BetweenFramesAndStuck := by
  refine ⟨⟨fun s bus waiting => congrArg _ (if_pos ⟨bus, waiting⟩), fun s stuck => congrArg _ (if_pos stuck),
    fun s bus view => ?_⟩, fun s bus view none => ?_, fun s bus stuck none => ⟨fun low => ?_, fun high => ?_⟩,
    fun s r e rest b bus view inFrame origin head incoming closed => ?_⟩
  · have low : lowLevel s = { s with gap := 0 } := by rcases view with view | view <;> simp [lowLevel, bus, view]
    exact congrArg Host.Outcome.next low
  · have sees : s.view.seesStuck = true := by rcases view with view | view <;> rw [view] <;> rfl
    rw [exec_stuckBus_seen bus (Or.inl sees), endFrame_none _ none]
    rfl
  · rw [exec_stuckBus_seen bus (Or.inr ⟨stuck, low⟩), endFrame_none _ none, ← stuck]
    rfl
  · have detects : detectsStuck s = false := by
      simp [detectsStuck, stuck, View.seesStuck, Config.stuckLimit, high]
    exact congrArg _ (if_neg (by simp [detects]))
  · have broken := entryBroken (how := .stuck) (stuck := true) rfl origin head incoming closed
    refine ⟨_, exec_stuckBus_seen bus (Or.inl (by rw [view]; rfl)), rfl, ?_⟩
    rw [endFrame_some _ inFrame]
    generalize frameEffects .stuck r s = v at broken
    have opened : r.opened = true := by simp [FrameRecord.opened, origin.1]
    refine ⟨rfl, rfl, fun known => by simp [dropFrame, opened, known], broken.store, fun kind open' => ?_, fun code valid => ?_⟩
    · obtain ⟨counted, few, last⟩ := broken.tried kind open'
      exact ⟨attemptCounted_latched counted rfl rfl rfl rfl rfl rfl, few, last⟩
    · exact writeBroken_latched (broken.write code valid) rfl rfl rfl rfl rfl rfl

/-- Settles O37: a frame that breaks off, by the station's part in it. -/
theorem breakOff : Obligations.BreakOff := by
  refine ⟨fun cause s r inFrame part incoming => ?_, fun cause s r i inFrame part incoming closed state => ?_,
    fun cause s r e rest inFrame origin head incoming closed => ?_, fun cause s r inFrame closed => ?_,
    fun k prot b s r stands part incoming free => ?_⟩
  · refine ⟨_, exec_breakOff_inFrame cause inFrame, ?_⟩
    rw [frameEffects_reader part incoming]
    refine ⟨rfl, rfl, ?_, ?_, by simp [dropFrame, FrameRecord.opened, part], rfl, rfl, rfl, rfl, rfl, rfl⟩
    · unfold dropFrame viewAfter
      dsimp only
      split
      · next joined => exact (if_pos joined).symm
      · next other => exact (if_neg other).symm
    · cases cause <;> rfl
  · refine ⟨_, exec_breakOff_inFrame cause inFrame, ?_⟩
    have reads : ¬ (r.part = .onlooker ∨ r.closed = true) := by simp [part, closed]
    have drops : frameEffects .broken r s = reportRole false (freeSlot i s) := by
      rw [← dropIncoming_some incoming state, ← breakFrame_participant (stuckBus := false) (by simp [FrameRecord.opened, part])]
      exact if_neg reads
    have kept : ∀ {α : Type} (f : State → α), (∀ i r u, f (State.setSlot u i r) = f u) → (∀ u, f (endUpkeep u) = f u) →
        f (freeSlot i s) = f s := fun f slot ended => freeSlot_keeps f slot ended i s
    have slots : ∀ j, (freeSlot i s).slot j = if j = i then Slot.freed else s.slot j := fun j => freeSlot_slot i j s
    have store : (freeSlot i s).store = s.store := kept (·.store) (fun _ _ _ => rfl) endUpkeep_store
    have queue : (freeSlot i s).queue = s.queue := kept (·.queue) (fun _ _ _ => rfl) endUpkeep_queue
    have latches : (freeSlot i s).latches = s.latches := kept (·.latches) (fun _ _ _ => rfl) endUpkeep_latches
    have records : s.upkeep = none → (freeSlot i s).outcome = s.outcome ∧ (freeSlot i s).accrued = s.accrued := fun idle => by
      have plain : freeSlot i s = s.setSlot i Slot.freed := by simp [freeSlot, idle]
      rw [plain]
      exact ⟨rfl, rfl⟩
    rw [drops]
    generalize freeSlot i s = v at slots store queue latches records
    exact ⟨rfl, (slots i).trans (if_pos rfl), fun j other => (slots j).trans (if_neg other), store, queue,
      congrArg (· ||| Latch.role.mask) latches, records⟩
  · have broken := entryBroken (how := .broken) (stuck := false) rfl origin head incoming closed
    refine ⟨_, exec_breakOff_inFrame cause inFrame, rfl, ?_⟩
    generalize frameEffects .broken r s = v at broken
    have opened : r.opened = true := by simp [FrameRecord.opened, origin.1]
    exact ⟨fun known => by simp [dropFrame, opened, known], broken.store, broken.tried, broken.write⟩
  · refine ⟨_, exec_breakOff_inFrame cause inFrame, ?_⟩
    have made : frameEffects .broken r s = s := by
      unfold frameEffects
      exact if_pos (Or.inr closed)
    rw [made]
    exact ⟨rfl, rfl, rfl, rfl, rfl, rfl, rfl, rfl, rfl, rfl⟩
  · obtain ⟨inFrame, code, at', reads, bits, closed⟩ := stands
    have kind : r.kind = some k := kind_of_code code
    refine ⟨_, exec_frameRow k prot _ s, ?_⟩
    have bit : frameEvent k.code (readProt (rowProt k prot s) s) (.bit b) =
        (readProt (rowProt k prot s) s).withRecord { r.fieldDone .past with pbdHeld := false } := by
      rw [frameEvent_bit (r := r) b (by exact inFrame) (fits_code code) (by simp [FrameRecord.beforeBit, reads])]
      exact bitComplete_past b inFrame (by simp [kind]) part at' free
    rw [frameEvents_cons, frameEvents_cons, frameEvents_nil, bit,
      frameEvent_closing (r := { r.fieldDone .past with pbdHeld := false }) rfl (fits_code code),
      if_neg (by simp [FrameRecord.completeHere, FrameRecord.fieldDone, part]),
      endFrame_some (r := { r.fieldDone .past with pbdHeld := false }) _ rfl, frameEffects_reader (by exact part) (by exact incoming)]
    exact ⟨rfl, rfl, rfl, rfl, rfl, rfl, rfl⟩

end Sys2Proof.Proofs
end

section
/-! Rules for a frame row of one event that has nothing to wait for: the closing, a single bit, a byte. -/

namespace Sys2Proof.Machine

/-- The station at the sampling of a bit, its pin read and the low phase begun, where the field prepares nothing. -/
def State.atSample (s : State) (p : Bool) (r : FrameRecord) : State := (readProt p s).withRecord r.lowered

@[simp] theorem atSample_slot (s : State) (p : Bool) (r : FrameRecord) (i : SlotIx) : (s.atSample p r).slot i = s.slot i := rfl
@[simp] theorem atSample_own (s : State) (p : Bool) (r : FrameRecord) : (s.atSample p r).own = s.own := rfl
@[simp] theorem atSample_straps (s : State) (p : Bool) (r : FrameRecord) : (s.atSample p r).straps = s.straps := rfl
@[simp] theorem atSample_upkeep (s : State) (p : Bool) (r : FrameRecord) : (s.atSample p r).upkeep = s.upkeep := rfl
@[simp] theorem atSample_frame (s : State) (p : Bool) (r : FrameRecord) : (s.atSample p r).frame = some r.lowered := rfl
@[simp] theorem atSample_arbiter (s : State) (p : Bool) (r : FrameRecord) : (s.atSample p r).arbiter = s.arbiter := rfl

/-- What a frame stands at does not depend on the pin. -/
theorem StandsAt.readProt {s : State} {r : FrameRecord} {k : Kind} {p : Point} (h : StandsAt s r k p) (prot : Bool) :
    StandsAt (readProt prot s) r k p := h

/-! ### The closing -/

/-- Before its closing a station that is not the originator prepares nothing. -/
theorem prepares_over_participant {k : Kind} {r : FrameRecord} (over' : r.point = .over) (part : r.part = .participant) (s : State) :
    r.prepares k s = s := by
  simp [FrameRecord.prepares, over', closingBegins, FrameRecord.originates, part]

/-- Nor does anyone in a void frame. -/
theorem prepares_over_void {k : Kind} {r : FrameRecord} (over' : r.point = .over) (void : r.voidRead = true) (s : State) :
    r.prepares k s = s := by
  simp [FrameRecord.prepares, over', closingBegins, void]

/-- Nor an originator whose kind makes no access at its closing. -/
theorem prepares_over_kind {k : Kind} {r : FrameRecord} (over' : r.point = .over) (loads : k ≠ .resync ∧ k ≠ .repair ∧ k ≠ .claim)
    (s : State) : r.prepares k s = s := by
  obtain ⟨resync, repair, claim⟩ := loads
  cases k <;> simp_all [FrameRecord.prepares, closingBegins]

/-- A single bit other than the ACK bits prepares nothing. -/
theorem prepares_plain {k : Kind} {r : FrameRecord} (quiet : r.point ≠ .answer ∧ r.point ≠ .bid ∧ r.point ≠ .ack ∧
    r.point ≠ .winnerAck ∧ r.point ≠ .over) (s : State) : r.prepares k s = s := by
  obtain ⟨answer, bid, ack, winner, over'⟩ := quiet
  unfold FrameRecord.prepares
  split <;> simp_all

/-- A row that closes a frame for which nothing is prepared: the changes of the kind, and the frame is dropped. -/
theorem StandsAt.exec_closing {s : State} {r : FrameRecord} {k : Kind} (h : StandsAt s r k .over) (prot : Bool)
    (free : s.arbiter.busyFor .frame = false) (nothing : ∀ t, r.prepares k t = t) :
    exec (frameRow k prot [.closing]) s =
      .next (dropFrame r (closeFrame k r (s.atSample (rowProt k prot s) r))) := by
  have stands : StandsAt (Machine.readProt (rowProt k prot s) s) r k .over := h
  have plain := stands.ready_plain free fun _ => nothing _
  have found : (ready (Machine.readProt (rowProt k prot s) s)).frame = some (r.toClose r.load) := by rw [plain]; rfl
  rw [exec_frameRow, frameEvents_cons, frameEvents_nil, stands.closing_ready found, plain]
  rfl

/-! ### The frame dropped -/

@[simp] theorem dropFrame_slot (r : FrameRecord) (s : State) (i : SlotIx) : (dropFrame r s).slot i = s.slot i := rfl
@[simp] theorem dropFrame_slots (r : FrameRecord) (s : State) : (dropFrame r s).slots = s.slots := rfl
@[simp] theorem dropFrame_store (r : FrameRecord) (s : State) : (dropFrame r s).store = s.store := rfl
@[simp] theorem dropFrame_latches (r : FrameRecord) (s : State) : (dropFrame r s).latches = s.latches := rfl
@[simp] theorem dropFrame_accrued (r : FrameRecord) (s : State) : (dropFrame r s).accrued = s.accrued := rfl
@[simp] theorem dropFrame_outcome (r : FrameRecord) (s : State) : (dropFrame r s).outcome = s.outcome := rfl
@[simp] theorem dropFrame_queue (r : FrameRecord) (s : State) : (dropFrame r s).queue = s.queue := rfl
@[simp] theorem dropFrame_upkeep (r : FrameRecord) (s : State) : (dropFrame r s).upkeep = s.upkeep := rfl
@[simp] theorem dropFrame_result (r : FrameRecord) (s : State) : (dropFrame r s).result = s.result := rfl
@[simp] theorem dropFrame_faults (r : FrameRecord) (s : State) : (dropFrame r s).faults = s.faults := rfl
@[simp] theorem dropFrame_station (r : FrameRecord) (s : State) : (dropFrame r s).station = s.station := rfl

/-! ### A single bit -/

/-- A row of one bit that stands alone, where nothing is prepared: what the station places is sampled as it stands. -/
theorem StandsAt.exec_bit {s : State} {r : FrameRecord} {k : Kind} {p : Point} (h : StandsAt s r k p) (prot others : Bool)
    (single : p.isByte = false) (free : s.arbiter.busyFor .frame = false) (nothing : ∀ t, r.prepares k t = t) :
    exec (frameRow k prot [.bit others]) s = .next (singleBit others r.lowered (s.atSample (rowProt k prot s) r)) := by
  have stands : StandsAt (Machine.readProt (rowProt k prot s) s) r k p := h
  obtain ⟨inFrame, code, point, reads, -⟩ := h
  rw [exec_frameRow, frameEvents_cons, frameEvents_nil,
    frameEvent_bit (r := r) others (by exact inFrame) (fits_code code) (by simp [FrameRecord.beforeBit, reads]), bitComplete,
    stands.ready_plain free fun _ => nothing _]
  have alone : r.lowered.point.isByte = false := by rw [← point] at single; exact single
  simp only [withRecord_frame, alone]
  rfl

/-! ### The single bits by their point -/

section
variable {r : FrameRecord} {s : State} {others : Bool}

/-- The record as it lets go of PBD or holds it at a single bit. -/
def FrameRecord.placing (r : FrameRecord) (own : Bool) : FrameRecord := { r with pbdHeld := own }

theorem singleBit_void (point : r.point = .void) :
    singleBit others r s = voidBit (r.placing (ownBit r s)) (ownBit r s || others) s := by
  simp [singleBit, point, FrameRecord.placing]

theorem singleBit_accept (point : r.point = .accept) :
    singleBit others r s = acceptBit (r.placing (ownBit r s)) (ownBit r s) (ownBit r s || others) s := by
  simp [singleBit, point, FrameRecord.placing]

theorem singleBit_presence (point : r.point = .presence) :
    singleBit others r s = presenceBit (r.placing (ownBit r s)) (ownBit r s) (ownBit r s || others) s := by
  simp [singleBit, point, FrameRecord.placing]

theorem singleBit_ack (point : r.point = .ack) :
    singleBit others r s = ackBit (r.placing (ownBit r s)) (ownBit r s || others) s := by
  simp [singleBit, point, FrameRecord.placing]

theorem singleBit_hold (point : r.point = .hold) :
    singleBit others r s = holdBit (r.placing (ownBit r s)) (ownBit r s) (ownBit r s || others) s := by
  simp [singleBit, point, FrameRecord.placing]

theorem singleBit_winnerAck (point : r.point = .winnerAck) :
    singleBit others r s = winnerAckBit (r.placing (ownBit r s)) (ownBit r s || others) s := by
  simp [singleBit, point, FrameRecord.placing]

theorem singleBit_fill {k : Kind} (point : r.point = .fill) (kind : r.kind = some k) :
    singleBit others r s = fillBit k (r.placing (ownBit r s)) (ownBit r s) (ownBit r s || others) s := by
  have same : FrameRecord.kind { r with pbdHeld := ownBit r s } = some k := kind
  simp only [singleBit, FrameRecord.placing, point] at same ⊢
  simp only [same]

end

/-! ### A byte -/

/-- The points before which nothing is prepared for a byte. -/
def Point.plainByte (p : Point) : Prop :=
  p = .header ∨ p = .page ∨ p = .field ∨ p = .check ∨ p = .holder ∨ p = .answerCheck

/-- A byte in which this station loses nothing, its low phase past or with nothing to prepare. -/
theorem byteComplete_plain {s : State} {r : FrameRecord} {others : Byte} (inFrame : s.frame = some r) (reads : r.part ≠ .onlooker)
    (byte : r.point.isByte = true) (bits : r.bits = []) (begins : r.low = true ∨ r.point.plainByte)
    (free : s.arbiter.busyFor .frame = false) (calm : r.point ≠ .holder ∨ r.demoted = false) (keeps : LosesNothing others r s) :
    byteComplete others s = byteRead (ownByte r s &&& others)
      (s.withRecord (r.reading (byteBits (ownByte r s &&& others)) false (!(ownByte r s).getLsbD 0)
        (r.aloneIn (ownByte r s) others))) := by
  cases low : r.low with
  | true => exact byteComplete_kept inFrame reads byte bits low free calm keeps
  | false =>
    have plain : r.point.plainByte := begins.resolve_left (by simp [low])
    rw [byteComplete_low inFrame reads bits low free plain]
    exact byteComplete_kept (s := s.withRecord (r.reading [] true false r.alone)) (r := r.reading [] true false r.alone) rfl reads byte rfl rfl free calm keeps

/-- The record with a byte read that this station and the others place together. -/
def FrameRecord.withByte (r : FrameRecord) (own others : Byte) : FrameRecord :=
  r.reading (byteBits (own &&& others)) false (!own.getLsbD 0) (r.aloneIn own others)

/-- A row of one byte in which this station loses nothing. -/
theorem StandsAt.exec_byte {s : State} {r : FrameRecord} {k : Kind} {p : Point} (h : StandsAt s r k p) (prot : Bool) (others : Byte)
    (byte : p.isByte = true) (later : p ≠ .header) (begins : r.low = true ∨ p.plainByte) (free : s.arbiter.busyFor .frame = false)
    (calm : p ≠ .holder ∨ r.demoted = false) (keeps : ∀ pin, LosesNothing others r (Machine.readProt pin s)) :
    exec (frameRow k prot [.byte others]) s =
      .next (byteRead (ownByte r s &&& others)
        ((Machine.readProt (rowProt k prot s) s).withRecord (r.withByte (ownByte r s) others))) := by
  obtain ⟨inFrame, code, rfl, reads, bits, -⟩ := h
  have before : r.beforeByte = true := by simp [FrameRecord.beforeByte, reads, byte, later, bits]
  rw [exec_frameRow, frameEvents_cons, frameEvents_nil, frameEvent_byte (r := r) others (by exact inFrame) (fits_code code) before,
    byteComplete_plain (r := r) (by exact inFrame) reads byte bits begins (by exact free) calm (keeps _)]
  rfl

/-! ### The header -/

/-- The header at a station that is not its opener: it reads what the opener places. -/
theorem headerComplete_reader {s : State} {r : FrameRecord} {row : BitVec 4} (o : StationNo) (inFrame : s.frame = some r)
    (point : r.point = .header) (part : r.part = .participant) (bits : r.bits = []) (free : s.arbiter.busyFor .frame = false) :
    headerComplete row o s =
      headerRead (r.reading (byteBits (row ++ o)) false false r.alone) (row ++ o)
        (s.withRecord (r.reading (byteBits (row ++ o)) false false r.alone)) := by
  have opener : r.part ≠ .opener := by simp [part]
  have placed : ownByte r s = 0xFF := by simp [ownByte, point, part]
  have spelled : (0xFF : Byte) &&& (row ++ o) = row ++ o := BitVec.allOnes_and
  have alone : r.aloneIn 0xFF (row ++ o) = r.alone := aloneIn_of opener _ _
  have read : byteComplete (row ++ o) s = headerRead (r.reading (byteBits (row ++ o)) false false r.alone) (row ++ o)
      (s.withRecord (r.reading (byteBits (row ++ o)) false false r.alone)) := by
    rw [byteComplete_plain inFrame (by simp [part]) (by simp [point, Point.isByte]) bits (Or.inr (Or.inl point)) free
      (Or.inl (by simp [point])) (losesNothing_request (Or.inl point) opener _ _), placed, spelled, alone]
    simp [byteRead, FrameRecord.reading, point]
  have kind : (row ++ o).extractLsb' 4 4 = row := by
    rw [BitVec.extractLsb'_append_eq_left]
  rw [headerComplete, read]
  exact if_pos (by simp [headerRead, kind])

end Sys2Proof.Machine

namespace Sys2Proof.Proofs

open Sys2Proof.Machine

/-- Settles O59: a header of an undefined kind makes its reader an onlooker, and an onlooker's frame ends with nothing changed. -/
theorem undefinedKind : Obligations.UndefinedKind := by
  refine ⟨fun low o s r inFrame point part code bits free => ?_, fun low s r inFrame part code free => ?_⟩
  · have fits : r.fits (1#1 ++ low) = true := by simp [FrameRecord.fits, code]
    have before : r.beforeHeader = true := by simp [FrameRecord.beforeHeader, part, point, bits]
    have kind : ((1#1 ++ low) ++ o : Byte).extractLsb' 4 4 = 1#1 ++ low := BitVec.extractLsb'_append_eq_left
    have undefined : ∀ low : BitVec 3, Kind.ofCode (1#1 ++ low) = none := by decide
    have number : ((1#1 ++ low) ++ o : Byte).extractLsb' 0 4 = o := BitVec.extractLsb'_append_eq_right
    rw [exec_undefinedKindFrame, frameEvents_cons, frameEvents_nil, frameEvent_header o inFrame fits before,
      headerComplete_reader o inFrame point part bits free]
    refine ⟨_, _, rfl, rfl, ?_, number, ?_, rfl, rfl, rfl, rfl⟩
    · simp [kind, undefined]
    · exact congrArg (fun n => s.marker && n == s.straps.number) number
  · rw [exec_undefinedKindFrame, frameEvents_cons, frameEvents_nil, frameEvent_closing inFrame (fits_code code),
      if_pos (by simp [FrameRecord.completeHere, part])]
    have same : ready s = s := by
      rw [ready, show lowPhase s = s by simp [lowPhase, inFrame, part], settle_free free]
    have unseen : frameEffects .complete r s = s := by
      unfold frameEffects
      exact if_pos (Or.inl part)
    rw [same, endFrame_some _ inFrame, unseen]
    exact ⟨_, rfl, rfl, rfl, by simp [dropFrame, FrameRecord.opened, part], rfl, rfl, rfl, rfl, rfl, rfl⟩

end Sys2Proof.Proofs
end

section
/-! The closing of a WRITE: what it makes of the slot of record (R87 to R89). -/

namespace Sys2Proof.Machine

/-- A slot table with one slot set. -/
theorem slots_setSlot_other {s : State} {i : SlotIx} {d : Slot} : ∀ j, j ≠ i → (s.setSlot i d).slot j = s.slot j :=
  fun _ other => slot_setSlot_ne _ _ other

/-- The copy falls behind at the closing: a MIRROR that drove no role, read APPLIED, and drove HOLD or follows another station. -/
def FrameRecord.leavesBehind (r : FrameRecord) (d : Slot) : Prop :=
  r.readApplied = true ∧ d.state = .mirror ∧ r.contest = .notDriving ∧ r.holder.isSome = true ∧
    (d.partner ≠ r.holder ∨ r.holdDriven = true)

/-- The holder loses its partner at the closing: it answered APPLIED and read neither final bit. -/
def FrameRecord.partsWith (r : FrameRecord) (d : Slot) : Prop :=
  r.holds = true ∧ r.answeredApplied = true ∧ d.state = .primary ∧ d.partner.isSome = true ∧ r.ack = false ∧ r.hold = false

/-- The copy's side, where it falls behind. -/
theorem closeWriteMirror_behind {r : FrameRecord} {i : SlotIx} {s : State} {h : StationNo} (behind : r.leavesBehind (s.slot i))
    (holder : r.holder = some h) :
    closeWriteMirror r i s =
      if r.originates then becomeStale i (some h) s else reportRole false (becomeStale i (some h) s) := by
  obtain ⟨applied, mirror, contest, some, follows⟩ := behind
  unfold closeWriteMirror
  dsimp only
  rw [if_pos ⟨applied, mirror, contest, some⟩]
  by_cases away : (s.slot i).partner = r.holder
  · rw [if_neg (by simp [away]), if_pos (follows.resolve_left (by simp [away])), away, holder]
  · rw [if_pos away, holder]

/-- The copy's side, where it does not. -/
theorem closeWriteMirror_kept {r : FrameRecord} {i : SlotIx} {s : State} (kept : ¬ r.leavesBehind (s.slot i)) :
    closeWriteMirror r i s = s := by
  unfold closeWriteMirror
  dsimp only
  split
  · next found =>
    obtain ⟨applied, mirror, contest, some⟩ := found
    rw [if_neg fun away => kept ⟨applied, mirror, contest, some, Or.inl away⟩,
      if_neg fun driven => kept ⟨applied, mirror, contest, some, Or.inr driven⟩]
  · rfl

/-- The slot's side of a WRITE's closing at a copy that falls behind. -/
theorem closeWriteSlot_behind {r : FrameRecord} {i : SlotIx} {s : State} {h : StationNo} (slot : r.slot = some i)
    (behind : r.leavesBehind (s.slot i)) (holder : r.holder = some h) :
    closeWriteSlot r s =
      if r.originates then becomeStale i (some h) s else reportRole false (becomeStale i (some h) s) := by
  have stale : ∀ t : State, (t.slot i).state = .stale → closeWriteHolder r i t = t := fun t state => by
    simp [closeWriteHolder, state]
  have now : (becomeStale i (some h) s).slot i = (s.slot i).staleBehind h := slot_setSlot_same _ _ _
  rw [closeWriteSlot, onSlotOfRecord, slot]
  dsimp only
  rw [closeWriteMirror_behind behind holder]
  refine stale _ ?_
  split
  · rw [now]; rfl
  · exact (congrArg Slot.state now).trans rfl

/-- At a holder that loses its partner. -/
theorem closeWriteSlot_parted {r : FrameRecord} {i : SlotIx} {s : State} (slot : r.slot = some i) (parts : r.partsWith (s.slot i)) :
    closeWriteSlot r s = reportRole r.participates (clearPartner i s) := by
  have kept : closeWriteMirror r i s = s := closeWriteMirror_kept fun behind => by
    obtain ⟨-, mirror, -⟩ := behind
    obtain ⟨-, -, primary, -⟩ := parts
    simp [primary] at mirror
  rw [closeWriteSlot, onSlotOfRecord, slot]
  dsimp only
  rw [kept]
  exact if_pos parts

/-- At any other station. -/
theorem closeWriteSlot_kept {r : FrameRecord} {s : State} (kept : ∀ i, r.slot = some i → ¬ r.leavesBehind (s.slot i))
    (keeps : ∀ i, r.slot = some i → ¬ r.partsWith (s.slot i)) : closeWriteSlot r s = s := by
  rw [closeWriteSlot, onSlotOfRecord]
  split
  · next i slot =>
    rw [closeWriteMirror_kept (kept i slot)]
    exact if_neg (keeps i slot)
  · rfl

/-- A participant's closing of a WRITE is the slot's. -/
theorem closeFrame_write_participant {r : FrameRecord} (s : State) (valid : r.voidRead = false) (part : r.part = .participant) :
    closeFrame .write r s = closeWriteSlot r s := by
  simp [closeFrame, closeSlot, valid, FrameRecord.originates, part]

/-- The status a holder answered, by its byte. -/
theorem answeredApplied_eq (r : FrameRecord) : r.answeredApplied = r.status.any fun b => b &&& 0x7F == 0x01 := by
  simp only [FrameRecord.answeredApplied, writeStatus_applied]

end Sys2Proof.Machine

namespace Sys2Proof.Proofs

open Sys2Proof.Machine

/-- Settles O56: the closing of a WRITE at a participant, by the state and the part of its slot. -/
theorem writeClosing : Obligations.WriteClosing := by
  intro prot s r i h stands valid part slot holder free d answered
  have closes := stands.exec_closing prot free (prepares_over_participant stands.2.2.1 part)
  rw [closeFrame_write_participant _ valid part] at closes
  refine ⟨_, closes, rfl, ?_⟩
  simp only [dropFrame_slot, dropFrame_store, dropFrame_latches, dropFrame_accrued]
  generalize rowProt .write prot s = p
  have holds : r.holds = true ↔ r.contest = .won := by simp [FrameRecord.holds]
  have answers : r.answeredApplied = answered := answeredApplied_eq r
  have unchanged : ¬ r.leavesBehind d → ¬ r.partsWith d → closeWriteSlot r (s.atSample p r) = s.atSample p r := fun kept keeps =>
    closeWriteSlot_kept (fun j at' => by rwa [Option.some.inj (at'.symm.trans slot)])
      (fun j at' => by rwa [Option.some.inj (at'.symm.trans slot)])
  by_cases behind : r.leavesBehind d
  · have made := closeWriteSlot_behind (s := s.atSample p r) slot behind holder
    rw [if_neg (by simp [FrameRecord.originates, part])] at made
    rw [made]
    obtain ⟨applied, mirror, contest, -, follows⟩ := behind
    have slots : ∀ j, (reportRole false (becomeStale i (some h) (s.atSample p r))).slot j =
        if j = i then d.staleBehind h else s.slot j := fun j => slot_setSlot _ _ _ _
    refine ⟨rfl, fun j other => (slots j).trans (if_neg other), ?_⟩
    rw [slots i, if_pos rfl]
    have away : d.partner = some h → r.holdDriven = true := fun same => follows.resolve_left fun other => other (same.trans holder.symm)
    refine ⟨fun _ _ _ _ _ => ⟨rfl, rfl, rfl⟩, fun _ _ same quiet => ?_, fun _ _ _ _ => ⟨rfl, rfl⟩, fun primary => ?_,
      fun primary => ?_, fun _ unread => ?_, fun other => ?_⟩
    · simp [away same] at quiet
    · simp [mirror] at primary
    · simp [mirror] at primary
    · simp [applied] at unread
    · simp [mirror, contest] at other
  · by_cases parts : r.partsWith d
    · have made := closeWriteSlot_parted (s := s.atSample p r) slot parts
      have degrades : r.participates = true := by simp [FrameRecord.participates, part]
      rw [degrades] at made
      rw [made]
      obtain ⟨won, applied, primary, partnered, noAck, noHold⟩ := parts
      have slots : ∀ j, (reportRole true (clearPartner i (s.atSample p r))).slot j =
          if j = i then { d with partner := none, seekDue := s.straps.ms } else s.slot j := fun j => slot_setSlot _ _ _ _
      refine ⟨rfl, fun j other => (slots j).trans (if_neg other), ?_⟩
      rw [slots i, if_pos rfl]
      have winner := holds.mp won
      refine ⟨fun mirror => ?_, fun mirror => ?_, fun mirror => ?_, fun _ _ _ _ _ _ => ⟨rfl, rfl, rfl⟩, fun _ _ kept => ?_,
        fun mirror => ?_, fun other => ?_⟩
      · simp [primary] at mirror
      · simp [primary] at mirror
      · simp [primary] at mirror
      · rw [← answers, applied] at kept
        simp_all
      · simp [primary] at mirror
      · simp [primary, winner] at other
    · rw [unchanged behind parts]
      refine ⟨rfl, fun _ _ => rfl, fun mirror contest applied _ driven => ?_, fun _ _ _ _ => ⟨rfl, rfl⟩,
        fun mirror contest applied away => ?_, fun primary won applied partnered noAck noHold => ?_,
        fun _ _ _ => ⟨rfl, rfl, rfl⟩, fun _ _ => ⟨rfl, rfl, rfl⟩, fun _ => ⟨rfl, rfl, rfl⟩⟩
      · exact absurd ⟨applied, mirror, contest, by simp [holder], Or.inr driven⟩ behind
      · exact absurd ⟨applied, mirror, contest, by simp [holder], Or.inl (by rwa [holder])⟩ behind
      · exact absurd ⟨holds.mpr won, answers.trans applied, primary, Option.isSome_iff_ne_none.mpr partnered, noAck, noHold⟩ parts

end Sys2Proof.Proofs
end

section
/-! How the originator settles its WRITE at the closing (R90), on whatever its slot's side of the closing has left. -/

namespace Sys2Proof.Machine

/-! ### A WRITE entry's end leaves the slots and the result record -/

/-- A WRITE that leaves the queue. -/
theorem headEnds_write_keeps {e : Entry} (write : e.isWrite = true) (rest : List Entry) (cause : Code) (s : State) :
    (headEnds e rest cause none none [] s).slots = s.slots ∧ (headEnds e rest cause none none [] s).result = s.result := by
  cases body : e.body with
  | write p o ws => simp [headEnds, body, formRecord, pushFault, endEntry, State.setLatch]
  | read p o n => simp [Entry.isWrite, body, EntryBody.kind] at write
  | claim p m i => simp [Entry.isWrite, body, EntryBody.kind] at write
  | release p => simp [Entry.isWrite, body, EntryBody.kind] at write

/-- A WRITE's try that is counted. -/
theorem countAttempt_write_keeps {s : State} {e : Entry} {rest : List Entry} (head : HeadInFlight s e rest) (write : e.isWrite = true)
    (cause : Code) : (countAttempt cause s).slots = s.slots ∧ (countAttempt cause s).result = s.result := by
  rw [countAttempt_head head]
  split
  · exact ⟨rfl, rfl⟩
  · split
    · exact ⟨rfl, rfl⟩
    · exact headEnds_write_keeps (e := { e with attempts := 3, inFlight := false }) write rest cause s

/-- A WRITE that fails finally at once. -/
theorem completeEntry_write_keeps {s : State} {e : Entry} {rest : List Entry} (head : HeadInFlight s e rest) (write : e.isWrite = true)
    (cause : Code) : (completeEntry cause none none [] s).slots = s.slots ∧ (completeEntry cause none none [] s).result = s.result := by
  rw [completeEntry_head head]
  exact headEnds_write_keeps write rest cause s

/-- A WRITE that completes APPLIED. -/
theorem completeApplied_keeps {s : State} {e : Entry} {rest : List Entry} (head : HeadInFlight s e rest) :
    (completeApplied s).slots = s.slots ∧ (completeApplied s).result = s.result := by
  rw [completeApplied_head head]
  exact ⟨by simp, by simp⟩

/-- A WRITE settled from a status. -/
theorem settleWrite_keeps {s : State} {e : Entry} {rest : List Entry} (own : ∃ request, s.own = some ⟨.entry, request⟩)
    (head : HeadInFlight s e rest) (write : e.isWrite = true) (st : BusStatus) :
    (settleWrite st s).slots = s.slots ∧ (settleWrite st s).result = s.result := by
  have added : ∀ flag cause, (completeEntry cause none none [] (addFlag flag s)).slots = s.slots ∧
      (completeEntry cause none none [] (addFlag flag s)).result = s.result := fun flag cause => by
    have flags := FlagsAdded.one own head flag
    obtain ⟨slots, result⟩ := completeEntry_write_keeps flags.head write cause
    exact ⟨slots.trans flags.slots, result.trans flags.result⟩
  cases st with
  | applied => exact completeApplied_keeps head
  | prot => exact added _ _
  | worn => exact added _ _
  | range => exact completeEntry_write_keeps head write _
  | ok => exact countAttempt_write_keeps head write _
  | damaged => exact countAttempt_write_keeps head write _
  | unlisted => exact countAttempt_write_keeps head write _

/-- The originator's side of a WRITE's closing leaves the slots and the result record. -/
theorem closeWriteOriginator_keeps {s : State} {r : FrameRecord} {e : Entry} {rest : List Entry}
    (own : ∃ request, s.own = some ⟨.entry, request⟩) (head : HeadInFlight s e rest) (write : e.isWrite = true) :
    (closeWriteOriginator r s).slots = s.slots ∧ (closeWriteOriginator r s).result = s.result := by
  unfold closeWriteOriginator
  split
  · exact countAttempt_write_keeps head write _
  · split
    · have flags := FlagsAdded.one own head .noHolder
      obtain ⟨slots, result⟩ := completeEntry_write_keeps flags.head write .noHolder
      exact ⟨slots.trans flags.slots, result.trans flags.result⟩
    · split
      · split
        · have flags := (FlagsAdded.start own head).final r
          obtain ⟨slots, result⟩ := settleWrite_keeps flags.own flags.head write r.settledStatus
          exact ⟨slots.trans flags.slots, result.trans flags.result⟩
        · exact settleWrite_keeps own head write _
      · exact countAttempt_write_keeps head write _

/-! ### What it leaves in the records -/

/-- The closing of a void WRITE. -/
theorem closeWriteOriginator_void {r : FrameRecord} (void : r.voidRead = true) (s : State) :
    closeWriteOriginator r s = countAttempt .void s := by
  unfold closeWriteOriginator
  exact if_pos void

/-- With no holder. -/
theorem closeWriteOriginator_noHolder {r : FrameRecord} (valid : r.voidRead = false) (unheld : r.holder = none) (s : State) :
    closeWriteOriginator r s = completeEntry .noHolder none none [] (addFlag .noHolder s) := by
  simp [closeWriteOriginator, valid, unheld]

/-- With a check that was not good. -/
theorem closeWriteOriginator_bad {r : FrameRecord} {h : StationNo} (valid : r.voidRead = false) (holder : r.holder = some h)
    (bad : r.answerCheck ≠ some true) (s : State) : closeWriteOriginator r s = countAttempt .answerBad s := by
  simp [closeWriteOriginator, valid, holder, bad]

/-- With a good check, by the status that settles it. -/
theorem closeWriteOriginator_good {r : FrameRecord} {h : StationNo} {b : Byte} (valid : r.voidRead = false)
    (holder : r.holder = some h) (good : r.answerCheck = some true) (settled : r.settledByte = some b) (s : State) :
    closeWriteOriginator r s = settleWrite (writeStatus b) (if writeStatus b = .applied then appliedFlags r s else s) := by
  simp [closeWriteOriginator, valid, holder, good, FrameRecord.settledStatus, settled]

/-- The final flags by the byte that settles the WRITE. -/
theorem finalFlags_settled {r : FrameRecord} {b : Byte} (settled : r.settledByte = some b) :
    r.finalFlags = flagIf r.hold .staleMirror ||| flagIf (b.msb && !r.ack && !r.hold) .unmirrored := by
  simp [FrameRecord.finalFlags, settled]

/-- The status a byte reads as, by its code. -/
theorem writeStatus_code {b c : Byte} (code : b &&& 0x7F = c) : writeStatus b =
    if c = 0x01 then .applied else if c = 0x02 then .prot else if c = 0x03 then .worn else if c = 0x04 then .range else .unlisted := by
  subst code
  rfl

/-- A status byte that names no status (R185). -/
theorem writeStatus_unlisted {b : Byte} (unlisted : b &&& 0x7F = 0 ∨ 4 < (b &&& 0x7F).toNat) : writeStatus b = .unlisted := by
  rw [writeStatus_code rfl]
  generalize b &&& 0x7F = c at unlisted
  have apart : ∀ n : Byte, n.toNat ≤ 4 → n ≠ 0 → c ≠ n := fun n few some same => by
    subst same
    exact unlisted.elim some (by omega)
  rw [if_neg (apart _ (by decide) (by decide)), if_neg (apart _ (by decide) (by decide)),
    if_neg (apart _ (by decide) (by decide)), if_neg (apart _ (by decide) (by decide))]

/-- What the originator's side of the closing leaves where the byte that settles the WRITE was read with a good check. -/
structure WriteSettled (s t : State) (r : FrameRecord) (e : Entry) (rest : List Entry) (b : Byte) : Prop where
  applied : b &&& 0x7F = 0x01 → t.queue = rest ∧ t.faults = s.faults ∧ t.latches = s.latches ∧
    EntryEnded s t e (flagIf r.hold .staleMirror ||| flagIf (b.msb && !r.ack && !r.hold) .unmirrored)
  prot : b &&& 0x7F = 0x02 → WriteFailed s t e rest .prot 0 ∧ EntryEnded s t e (withFlag .prot 0)
  worn : b &&& 0x7F = 0x03 → WriteFailed s t e rest .worn 0 ∧ EntryEnded s t e (withFlag .worn 0)
  range : b &&& 0x7F = 0x04 → WriteFailed s t e rest .range 0 ∧ EntryEnded s t e 0
  unlisted : b &&& 0x7F = 0 ∨ 4 < (b &&& 0x7F).toNat → AttemptCounted s t e rest 0 .answerBad 0

/-- The settlement by the byte. -/
theorem closeWriteOriginator_settled {s : State} {r : FrameRecord} {e : Entry} {rest : List Entry} {h : StationNo} {b : Byte}
    (own : ∃ request, s.own = some ⟨.entry, request⟩) (head : HeadInFlight s e rest) (write : e.isWrite = true)
    (valid : r.voidRead = false) (holder : r.holder = some h) (good : r.answerCheck = some true) (settled : r.settledByte = some b) :
    WriteSettled s (closeWriteOriginator r s) r e rest b := by
  rw [closeWriteOriginator_good valid holder good settled]
  have start := FlagsAdded.start own head
  refine ⟨fun code => ?_, fun code => ?_, fun code => ?_, fun code => ?_, fun code => ?_⟩
  · have status : writeStatus b = .applied := (writeStatus_code code).trans rfl
    have final := start.final r
    rw [finalFlags_settled settled, show ∀ f : BitVec 16, 0 ||| f = f from fun _ => BitVec.zero_or] at final
    obtain ⟨queue, faults, -, latches, ended⟩ := final.applied
    rw [status, if_pos rfl]
    exact ⟨queue, faults, latches, ended⟩
  · have status : writeStatus b = .prot := (writeStatus_code code).trans rfl
    rw [status, if_neg (by decide)]
    exact (FlagsAdded.one own head .prot).refused write .prot
  · have status : writeStatus b = .worn := (writeStatus_code code).trans rfl
    rw [status, if_neg (by decide)]
    exact (FlagsAdded.one own head .worn).refused write .worn
  · have status : writeStatus b = .range := (writeStatus_code code).trans rfl
    rw [status, if_neg (by decide)]
    exact start.refused write .range
  · rw [writeStatus_unlisted code, if_neg (by decide)]
    exact start.counted .answerBad

/-! ### What was latched before -/

/-- Latches set in either order. -/
theorem latched_swap (set l m : BitVec 6) : set ||| l ||| m ||| 0 = set ||| m ||| l := by
  rw [BitVec.or_assoc set, BitVec.or_comm l]
  simp [BitVec.or_assoc]

/-- From `s` to `u` only latches an operation's records do not speak of were set. -/
structure LatchedOnly (s u : State) (l : BitVec 6) : Prop where
  queue   : u.queue = s.queue
  outcome : u.outcome = s.outcome
  accrued : u.accrued = s.accrued
  result  : u.result = s.result
  faults  : u.faults = s.faults
  latches : u.latches = s.latches ||| l

/-- An entry's end after it. -/
theorem LatchedOnly.ended {s u t : State} {l : BitVec 6} {e : Entry} {f : BitVec 16} (h : LatchedOnly s u l)
    (ended : EntryEnded u t e f) : EntryEnded s t e f := by
  obtain ⟨outcome, accrued⟩ := ended
  exact ⟨by rw [outcome, h.outcome], by rw [accrued, h.accrued]⟩

/-- A failed WRITE after it. -/
theorem LatchedOnly.failed {s u t : State} {l : BitVec 6} {e : Entry} {rest : List Entry} {c : Code} (h : LatchedOnly s u l)
    (failed : WriteFailed u t e rest c 0) : WriteFailed s t e rest c l := by
  obtain ⟨queue, result, latches, faults⟩ := failed
  refine ⟨queue, result.trans h.result, ?_, by rw [faults, h.faults]⟩
  rw [latches, h.latches]
  exact latched_swap _ _ _

/-- A counted attempt after it. -/
theorem LatchedOnly.counted {s u t : State} {l : BitVec 6} {e : Entry} {rest : List Entry} {f : BitVec 16} {c : Code}
    (h : LatchedOnly s u l) (counted : AttemptCounted u t e rest f c 0) : AttemptCounted s t e rest f c l := by
  obtain ⟨stays, fails⟩ := counted
  refine ⟨fun few => ?_, fun last => ?_⟩
  · obtain ⟨queue, outcome, accrued, result, faults, latches⟩ := stays few
    exact ⟨queue, by rw [outcome, h.outcome], accrued.trans h.accrued, result.trans h.result, faults.trans h.faults,
      by rw [latches, h.latches]; simp⟩
  · obtain ⟨ended, filled, failed⟩ := fails last
    refine ⟨h.ended ended, fun other => ?_, fun write => h.failed (failed write)⟩
    obtain ⟨queue, faults, latches, result⟩ := filled other
    refine ⟨queue, faults.trans h.faults, ?_, result⟩
    rw [latches, h.latches]
    exact latched_swap _ _ _

end Sys2Proof.Machine
end

section
/-! A WRITE at its originator: the slot and the records at the closing, and the checks it reads (R90, R57, R33). -/

namespace Sys2Proof.Machine

/-- An opener that another joins in every bit it drives is alone in none. -/
theorem aloneIn_joined (r : FrameRecord) (own : Byte) : r.aloneIn own own = r.alone := by
  have joined : ∀ n alone, r.aloneAt own own n alone = alone := fun n alone => by
    cases h : own.getLsbD n <;> simp [FrameRecord.aloneAt, h]
  simp [FrameRecord.aloneIn, joined]

/-- An opener no other joins is alone as soon as it drives a bit. -/
theorem aloneIn_solitary {r : FrameRecord} (part : r.part = .opener) {own : Byte} (drives : own ≠ 0xFF) : r.aloneIn own 0xFF = true := by
  have alone : ∀ b : Byte, b ≠ 0xFF → ([7, 6, 5, 4, 3, 2, 1, 0].any fun n => !b.getLsbD n) = true := by decide +kernel
  have found := alone own drives
  simp only [FrameRecord.aloneIn, FrameRecord.aloneAt, part]
  simpa [Bool.or_assoc] using Or.inr found

/-- A WRITE whose status byte reads a listed code. -/
theorem writeStatus_listed {b : Byte} (listed : b &&& 0x7F = 0x01 ∨ b &&& 0x7F = 0x02 ∨ b &&& 0x7F = 0x03 ∨ b &&& 0x7F = 0x04) :
    writeStatus b ≠ .unlisted := by
  rcases listed with code | code | code | code <;> rw [writeStatus_code code] <;> decide

/-! ### The answer check of a WRITE -/

/-- A good check of a listed status adds no flag. -/
theorem answerCheckRead_write_good {q : FrameRecord} {read : Byte} (good : (q.answersItself || crc8 q.answer == read) = true)
    (listed : q.settledStatus ≠ .unlisted) (s : State) : (answerCheckRead .write q read s).queue = s.queue := by
  have clean : answerBad .write q true = false := by simp [answerBad, listed]
  unfold answerCheckRead
  dsimp only
  rw [good, clean]
  rfl

/-- A bad check at the originator adds ANSWERBAD to its entry. -/
theorem answerCheckRead_write_bad {q : FrameRecord} {read : Byte} {s : State} {e : Entry} {rest : List Entry}
    (bad : (q.answersItself || crc8 q.answer == read) = false) (originates : q.originates = true)
    (own : ∃ request, s.own = some ⟨.entry, request⟩) (head : HeadInFlight s e rest) :
    (answerCheckRead .write q read s).queue = { e with gathered := withFlag .answerBad e.gathered } :: rest := by
  have flagged : answerBad .write q false = true := by simp [answerBad, originates]
  obtain ⟨request, own⟩ := own
  unfold answerCheckRead
  dsimp only
  rw [bad, flagged]
  exact (addFlag_head .answerBad own head).2.1

/-! ### The slot's side at the originator -/

/-- The originator, the holder of its own WRITE, loses its partner at the closing. -/
def FrameRecord.partsHere (r : FrameRecord) (s : State) : Bool :=
  !r.voidRead && r.contest == .won && r.status.any (fun b => b &&& 0x7F == 0x01) && !r.ack && !r.hold &&
    r.slot.any fun i => (s.slot i).state == .primary && (s.slot i).partner.isSome

/-- It does in a frame that is not void where its slot of record parts with its partner. -/
theorem partsHere_iff {r : FrameRecord} {s : State} :
    r.partsHere s = true ↔ r.voidRead = false ∧ ∃ i, r.slot = some i ∧ r.partsWith (s.slot i) := by
  unfold FrameRecord.partsHere FrameRecord.partsWith
  rw [answeredApplied_eq]
  cases slot : r.slot with
  | none => simp
  | some i =>
    simp [FrameRecord.holds]
    tauto

/-- What the slot's side of a WRITE's closing leaves at its originator. -/
structure WriteSlotSide (s v : State) (r : FrameRecord) : Prop where
  slotless : r.slot = none → v.slots = s.slots
  others   : ∀ i j, r.slot = some i → j ≠ i → v.slot j = s.slot j
  behind   : ∀ i h, r.voidRead = false → r.slot = some i → r.holder = some h → r.leavesBehind (s.slot i) →
    v.slot i = (s.slot i).staleBehind h
  parts    : ∀ i, r.voidRead = false → r.slot = some i → r.partsWith (s.slot i) →
    v.slot i = { s.slot i with partner := none, seekDue := s.straps.ms }
  kept     : ∀ i, r.slot = some i → r.voidRead = true ∨ (¬ r.leavesBehind (s.slot i) ∧ ¬ r.partsWith (s.slot i)) →
    v.slot i = s.slot i
  records  : LatchedOnly s v (if r.partsHere s then 1#6 <<< 2 else 0)
  entry    : v.abandoned = s.abandoned ∧ v.own = s.own

/-- Where nothing is made of the slot. -/
theorem writeSlotSide_kept {s : State} {r : FrameRecord} (kept : r.voidRead = true ∨
    ((∀ i, r.slot = some i → ¬ r.leavesBehind (s.slot i)) ∧ ∀ i, r.slot = some i → ¬ r.partsWith (s.slot i))) :
    WriteSlotSide s s r := by
  have whole : r.partsHere s = false := by
    refine Bool.eq_false_iff.mpr fun parts => ?_
    obtain ⟨valid, i, slot, parts⟩ := partsHere_iff.mp parts
    rcases kept with void | ⟨-, keeps⟩
    · simp [valid] at void
    · exact keeps i slot parts
  refine ⟨fun _ => rfl, fun _ _ _ _ => rfl, fun i h valid slot _ behind => ?_, fun i valid slot parts => ?_, fun _ _ _ => rfl, ?_,
    rfl, rfl⟩
  · rcases kept with void | ⟨keeps, -⟩
    · simp [valid] at void
    · exact absurd behind (keeps i slot)
  · rcases kept with void | ⟨-, keeps⟩
    · simp [valid] at void
    · exact absurd parts (keeps i slot)
  · rw [whole]
    exact ⟨rfl, rfl, rfl, rfl, rfl, by simp⟩

/-- A copy that falls behind is a MIRROR. -/
theorem FrameRecord.leavesBehind.mirror {r : FrameRecord} {d : Slot} (behind : r.leavesBehind d) : d.state = .mirror := behind.2.1

/-- A copy that parts with its partner is a PRIMARY. -/
theorem FrameRecord.partsWith.primary {r : FrameRecord} {d : Slot} (parts : r.partsWith d) : d.state = .primary := parts.2.2.1

/-- A copy cannot both fall behind and part with its partner. -/
theorem partsWith_not_leavesBehind {r : FrameRecord} {d : Slot} (parts : r.partsWith d) : ¬ r.leavesBehind d := by
  rintro ⟨-, mirror, -⟩
  obtain ⟨-, -, primary, -⟩ := parts
  simp [primary] at mirror

/-- The slot's side of the closing, in a frame that is not void, at the originator. -/
theorem closeWriteSlot_originator {r : FrameRecord} (origin : r.part = .originator) (valid : r.voidRead = false) (s : State) :
    WriteSlotSide s (closeWriteSlot r s) r := by
  by_cases behind : ∃ i, r.slot = some i ∧ r.leavesBehind (s.slot i)
  · obtain ⟨i, slot, behind⟩ := behind
    obtain ⟨h, holder⟩ := Option.isSome_iff_exists.mp behind.2.2.2.1
    have made := closeWriteSlot_behind slot behind holder
    rw [if_pos (by simp [FrameRecord.originates, origin])] at made
    have whole : r.partsHere s = false := Bool.eq_false_iff.mpr fun parts => by
      obtain ⟨-, j, at', parts⟩ := partsHere_iff.mp parts
      rw [Option.some.inj (at'.symm.trans slot)] at parts
      exact partsWith_not_leavesBehind parts behind
    have slots : ∀ j, (closeWriteSlot r s).slot j = if j = i then (s.slot i).staleBehind h else s.slot j := fun j => by
      rw [made]
      exact slot_setSlot _ _ _ _
    refine ⟨fun none => by simp [slot] at none, fun j k at' other => ?_, fun j g _ at' held _ => ?_, fun j _ at' parts => ?_,
      fun j at' kept => ?_, ?_, by rw [made]; exact ⟨rfl, rfl⟩⟩
    · obtain rfl := Option.some.inj (slot.symm.trans at')
      rw [slots, if_neg other]
    · obtain rfl := Option.some.inj (slot.symm.trans at')
      obtain rfl := Option.some.inj (holder.symm.trans held)
      rw [slots, if_pos rfl]
    · obtain rfl := Option.some.inj (slot.symm.trans at')
      exact absurd behind (partsWith_not_leavesBehind parts)
    · obtain rfl := Option.some.inj (slot.symm.trans at')
      simp [valid, behind] at kept
    · rw [whole, made]
      exact ⟨rfl, rfl, rfl, rfl, rfl, by simp [becomeStale]⟩
  · by_cases parts : ∃ i, r.slot = some i ∧ r.partsWith (s.slot i)
    · obtain ⟨i, slot, parts⟩ := parts
      have made := closeWriteSlot_parted slot parts
      have own : r.participates = false := by simp [FrameRecord.participates, origin]
      rw [own] at made
      have parted : r.partsHere s = true := partsHere_iff.mpr ⟨valid, i, slot, parts⟩
      have slots : ∀ j, (closeWriteSlot r s).slot j =
          if j = i then { s.slot i with partner := none, seekDue := s.straps.ms } else s.slot j := fun j => by
        rw [made]
        exact slot_setSlot _ _ _ _
      refine ⟨fun none => by simp [slot] at none, fun j k at' other => ?_, fun j g _ at' _ behind' => ?_, fun j _ at' _ => ?_,
        fun j at' kept => ?_, ?_, by rw [made]; exact ⟨rfl, rfl⟩⟩
      · obtain rfl := Option.some.inj (slot.symm.trans at')
        rw [slots, if_neg other]
      · exact absurd ⟨j, at', behind'⟩ behind
      · obtain rfl := Option.some.inj (slot.symm.trans at')
        rw [slots, if_pos rfl]
      · obtain rfl := Option.some.inj (slot.symm.trans at')
        simp [valid, parts] at kept
      · rw [parted, made]
        exact ⟨rfl, rfl, rfl, rfl, rfl, rfl⟩
    · have keeps : (∀ i, r.slot = some i → ¬ r.leavesBehind (s.slot i)) ∧ ∀ i, r.slot = some i → ¬ r.partsWith (s.slot i) :=
        ⟨fun i slot found => behind ⟨i, slot, found⟩, fun i slot found => parts ⟨i, slot, found⟩⟩
      rw [closeWriteSlot_kept keeps.1 keeps.2]
      exact writeSlotSide_kept (Or.inr keeps)

/-- The closing of a WRITE at its originator: the slot's side, then the settlement of its operation. -/
theorem closeFrame_write_originator {r : FrameRecord} (origin : r.part = .originator) (s : State) :
    ∃ v, WriteSlotSide s v r ∧ closeFrame .write r s = closeWriteOriginator r v := by
  have originates : r.originates = true := by simp [FrameRecord.originates, origin]
  cases void : r.voidRead with
  | true => exact ⟨s, writeSlotSide_kept (Or.inl void), by simp [closeFrame, closeOriginator, void, originates]⟩
  | false =>
    exact ⟨closeWriteSlot r s, closeWriteSlot_originator origin void s, by simp [closeFrame, closeOriginator, closeSlot, void, originates]⟩

end Sys2Proof.Machine

namespace Sys2Proof.Proofs

open Sys2Proof.Machine

/-- Settles O57: the originator's WRITE at its closing, on what its own slot's side of it has left; the checks it reads by what it
placed in them itself. -/
theorem writeOutcome : Obligations.WriteOutcome := by
  refine ⟨fun prot s r e rest page offset data stands origin head body free => ?_,
    fun prot others s r e rest b stands origin head free listed => ?_,
    fun k prot others own s r op request stands part own' byte free placed => ?_⟩
  · have closes := stands.exec_closing prot free (prepares_over_kind stands.2.2.1 (by decide))
    generalize rowProt .write prot s = p at closes
    have store := (closeFrame_effects .write r (s.atSample p r)).undisturbed.store
    obtain ⟨v, side, made⟩ := closeFrame_write_originator origin.1 (s.atSample p r)
    rw [made] at closes store
    have write : e.isWrite = true := by simp [Entry.isWrite, body, EntryBody.kind]
    have own : ∃ request, v.own = some ⟨.entry, request⟩ := by
      rw [side.entry.2]
      exact origin.2
    have inFlight : HeadInFlight v e rest := ⟨side.entry.1.trans head.1, side.records.queue.trans head.2.1, head.2.2⟩
    obtain ⟨slots, result⟩ := closeWriteOriginator_keeps (r := r) own inFlight write
    have slot : ∀ i, (closeWriteOriginator r v).slot i = v.slot i := slot_congr slots
    have opened : r.opened = true := by simp [FrameRecord.opened, origin.1]
    intro settled answered parted role failed
    have records : LatchedOnly s v role := by
      obtain ⟨queue, outcome, accrued, result, faults, latches⟩ := side.records
      exact ⟨queue, outcome, accrued, result, faults, latches⟩
    obtain ⟨slotless, others, behinds, partings, keeps, -, -⟩ := side
    have start := FlagsAdded.start own inFlight
    refine ⟨_, closes, store, result.trans records.result, rfl, by simp [dropFrame, opened, stands.2.1],
      fun none => slots.trans (slotless none), fun i at' => ?_, fun void => ?_, fun valid unheld => ?_,
      fun h b valid holder byte good => ?_, fun h valid holder bad => ?_⟩
    · have held : r.holds = true ↔ r.contest = .won := by simp [FrameRecord.holds]
      have answers : r.answeredApplied = answered := answeredApplied_eq r
      have kept : ¬ r.leavesBehind (s.slot i) → ¬ r.partsWith (s.slot i) → (closeWriteOriginator r v).slot i = s.slot i :=
        fun behind parts => (slot i).trans (keeps i at' (Or.inr ⟨behind, parts⟩))
      dsimp only [dropFrame_slot]
      generalize known : s.slot i = d at kept
      refine ⟨fun j other => (slot j).trans (others i j at' other), fun quiet => quiet.elim (fun void => ?_) fun other =>
          kept (fun behind => other.1 behind.mirror) fun parts => other.2 parts.primary,
        fun mirror unread => kept (fun behind => ?_) fun parts => ?_,
        fun valid primary won => ⟨fun applied partnered noAck noHold => ?_, fun stays => kept (fun behind => ?_) fun parts => ?_⟩,
        fun primary lost => kept (fun behind => ?_) fun parts => lost (held.mp parts.1),
        fun h valid applied mirror holder => ⟨fun contest follows => ?_, fun stays => kept (fun behind => ?_) fun parts => ?_⟩⟩
      · rw [← known]
        exact (slot i).trans (keeps i at' (Or.inl void))
      · exact absurd (behind.1.symm.trans unread) (by decide)
      · exact absurd (mirror.symm.trans parts.primary) (by decide)
      · subst known
        exact (slot i).trans (partings i valid at'
          ⟨held.mpr won, answers.trans applied, primary, Option.isSome_iff_ne_none.mpr partnered, noAck, noHold⟩)
      · exact absurd (primary.symm.trans behind.mirror) (by decide)
      · obtain ⟨-, applied, -, partnered, noAck, noHold⟩ := parts
        rw [answers] at applied
        simp [applied, Option.isSome_iff_ne_none.mp partnered, noAck, noHold] at stays
      · exact absurd (primary.symm.trans behind.mirror) (by decide)
      · subst known
        exact (slot i).trans (behinds i h valid at' holder ⟨applied, mirror, contest, by simp [holder], by rw [holder]; exact follows⟩)
      · obtain ⟨-, -, contest, -, follows⟩ := behind
        rw [holder] at follows
        rcases stays with other | ⟨same, quiet⟩
        · exact other contest
        · simp [same, quiet] at follows
      · exact absurd (mirror.symm.trans parts.primary) (by decide)
    · refine records.counted ?_
      rw [closeWriteOriginator_void void]
      exact start.counted .void
    · rw [closeWriteOriginator_noHolder valid unheld]
      obtain ⟨failed, ended⟩ := (FlagsAdded.one own inFlight .noHolder).refused write .noHolder
      exact ⟨records.failed failed, records.ended ended⟩
    · have settles := closeWriteOriginator_settled own inFlight write valid holder good byte
      refine ⟨fun code => ?_, fun code => ?_, fun code => ?_, fun code => ?_, fun code => records.counted (settles.unlisted code)⟩
      · obtain ⟨queue, faults, latches, ended⟩ := settles.applied code
        exact ⟨queue, faults.trans records.faults, latches.trans records.latches, records.ended ended⟩
      · exact ⟨records.failed (settles.prot code).1, records.ended (settles.prot code).2⟩
      · exact ⟨records.failed (settles.worn code).1, records.ended (settles.worn code).2⟩
      · exact ⟨records.failed (settles.range code).1, records.ended (settles.range code).2⟩
    · refine records.counted ?_
      rw [closeWriteOriginator_bad valid holder (by simp [bad])]
      exact start.counted .answerBad
  · have opener : r.part ≠ .opener := by simp [origin.1]
    have at' : r.point = .answerCheck := stands.2.2.1
    have kind : r.kind = some .write := kind_of_code stands.2.1
    have runs := stands.exec_byte prot others (by decide) (by decide) (Or.inr (by simp [Point.plainByte])) free (Or.inl (by decide))
      (fun pin => losesNothing_answer (Or.inr at') others _)
    have places : ownByte r s = r.toSend.headD 0xFF := by simp [ownByte, at']
    have read : ∀ (x y : Byte) (u : State), byteRead x (u.withRecord (r.withByte y others)) =
        answerCheckRead .write (r.withByte y others) x (u.withRecord (r.withByte y others)) := fun x y u => by
      have same : (r.withByte y others).kind = some .write := kind
      have point : (r.withByte y others).point = .answerCheck := at'
      simp [byteRead, same, point]
    rw [read, places] at runs
    generalize made : r.withByte (r.toSend.headD 0xFF) others = q at runs
    have alone : q.alone = r.alone := by
      rw [← made]
      exact aloneIn_of opener _ _
    have settles : ∀ c, (if r.contest = .won ∧ r.alone = true then r.status else r.answer.head?) = some c →
        q.settledStatus = writeStatus c := fun c settled => by
      have same : q.settledByte = some c := by
        rw [← settled, ← alone, ← made]
        rfl
      simp [FrameRecord.settledStatus, same]
    have originates : q.originates = true := by
      rw [← made]
      exact beq_iff_eq.mpr origin.1
    have itself : q.answersItself = (r.alone && !r.toSend.isEmpty) := by
      have same : q.toSend = r.toSend := by rw [← made]; rfl
      simp [FrameRecord.answersItself, originates, alone, same]
    have answer : q.answer = r.answer := by rw [← made]; rfl
    refine ⟨_, _, runs, rfl, rfl, ?_, ?_, fun won lone status sends => ?_, fun reader => ⟨fun head' matches' => ?_, fun differs => ?_⟩⟩
    · exact addFlagIf_slots _ _ _
    · exact addFlagIf_store _ _ _
    · have checks : (q.answersItself || crc8 q.answer == (r.toSend.headD 0xFF &&& others)) = true := by
        simp [itself, lone, sends]
      refine ⟨congrArg some checks, answerCheckRead_write_good checks ?_ _⟩
      rw [settles b (by simp [won, lone, status])]
      exact writeStatus_listed listed
    · have checks : (q.answersItself || crc8 q.answer == (r.toSend.headD 0xFF &&& others)) = true := by
        rw [answer, matches', beq_self_eq_true, Bool.or_true]
      refine ⟨congrArg some checks, answerCheckRead_write_good checks ?_ _⟩
      rw [settles b]
      · exact writeStatus_listed listed
      · rw [if_neg, head']
        rintro ⟨won, lone⟩
        rcases reader with ⟨other, -⟩ | joined
        · exact other won
        · simp [lone] at joined
    · have fails : (q.answersItself || crc8 q.answer == (r.toSend.headD 0xFF &&& others)) = false := by
        have sender : (r.alone && !r.toSend.isEmpty) = false := by
          rcases reader with ⟨-, nothing⟩ | joined
          · simp [nothing]
          · simp [joined]
        rw [itself, sender, answer, Bool.false_or]
        exact beq_false_of_ne differs
      exact ⟨congrArg some fails, answerCheckRead_write_bad fails originates origin.2 head⟩
  · have at' : r.point = .check := stands.2.2.1
    have places : ownByte r s = own := by simp [ownByte, at', part, own', byte]
    have joined : own &&& others = own := by
      rcases placed with rfl | rfl
      · exact BitVec.and_self
      · exact BitVec.and_allOnes
    have keeps : ∀ pin, LosesNothing others r (readProt pin s) := fun pin => by
      rcases placed with same | rfl
      · exact Or.inl fun n bit _ => by rw [show ownByte r (readProt pin s) = own from places, ← same]; exact bit
      · exact losesNothing_alone _ _
    have runs := stands.exec_byte prot others (by decide) (by decide) (Or.inr (by simp [Point.plainByte])) free (Or.inl (by decide)) keeps
    have read : ∀ u : State, byteRead own (u.withRecord (r.withByte own others)) =
        requestCheckRead (r.withByte own others) own (u.withRecord (r.withByte own others)) := fun u => by
      simp [byteRead, FrameRecord.withByte, FrameRecord.reading, at']
    rw [places, joined, read] at runs
    refine ⟨_, _, runs, rfl, if_pos part, rfl, rfl, rfl, rfl, fun same => ?_, fun none drives => ?_⟩
    · subst same
      exact aloneIn_joined r _
    · subst none
      exact aloneIn_solitary part drives

end Sys2Proof.Proofs
end

section
/-! A READ at its holder and at its originator (R92 to R94). -/

namespace Sys2Proof.Machine

/-! ### The low phase before an answer -/

/-- A row of one fall of PBC inside a frame. -/
theorem StandsAt.exec_low {s : State} {r : FrameRecord} {k : Kind} {p : Point} (h : StandsAt s r k p) (prot : Bool)
    (fresh : r.low = false) :
    exec (frameRow k prot [.low]) s = .next (r.prepares k (s.atSample (rowProt k prot s) r)) := by
  have stands : StandsAt (Machine.readProt (rowProt k prot s) s) r k p := h
  obtain ⟨inFrame, code, -⟩ := h
  rw [exec_frameRow, frameEvents_cons, frameEvents_nil, frameEvent_low (r := r) (by exact inFrame) (fits_code code),
    stands.lowPhase_fresh fresh]
  rfl

/-- The station that holds the page prepares the first byte of a READ's answer. -/
theorem prepares_read {r : FrameRecord} {i : SlotIx} (point : r.point = .answer) (answer : r.answer = []) (won : r.contest = .won)
    (slot : r.slot = some i) (s : State) : r.prepares .read s = readHolderBegins r i s := by
  simp [FrameRecord.prepares, point, answer, answerBegins, FrameRecord.holds, won, onSlotOfRecord, slot]

/-- A byte whose low phase prepares something begins with what it has prepared. -/
theorem byteComplete_ready {s t : State} {q : FrameRecord} (others : Byte) (prepared : ready s = t) (inFrame : t.frame = some q)
    (low : q.low = true) (free : t.arbiter.busyFor .frame = false) : byteComplete others s = byteComplete others t := by
  have first : ∀ o, bitComplete o s = bitComplete o t := fun o => by
    simp only [bitComplete, prepared, ready_free inFrame low free]
  rw [byteComplete_bits, byteComplete_bits, first]

/-- A row of one byte whose low phase has prepared something, and in which this station loses nothing. -/
theorem StandsAt.exec_byte_prepared {s t : State} {r q : FrameRecord} {k : Kind} {p : Point} (h : StandsAt s r k p) (prot : Bool)
    (others : Byte) (byte : p.isByte = true) (later : p ≠ .header) (prepared : ready (Machine.readProt (rowProt k prot s) s) = t)
    (inFrame : t.frame = some q) (low : q.low = true) (same : q.part = r.part ∧ q.point = r.point ∧ q.bits = [])
    (free : t.arbiter.busyFor .frame = false) (calm : p ≠ .holder ∨ q.demoted = false) (keeps : LosesNothing others q t) :
    exec (frameRow k prot [.byte others]) s =
      .next (byteRead (ownByte q t &&& others) (t.withRecord (q.withByte (ownByte q t) others))) := by
  obtain ⟨started, code, rfl, reads, bits, -⟩ := h
  obtain ⟨part, point, fresh⟩ := same
  have before : r.beforeByte = true := by simp [FrameRecord.beforeByte, reads, byte, later, bits]
  rw [exec_frameRow, frameEvents_cons, frameEvents_nil, frameEvent_byte (r := r) others (by exact started) (fits_code code) before,
    byteComplete_ready others prepared inFrame low free]
  exact congrArg _ (byteComplete_kept inFrame (by rwa [part]) (by rwa [point]) fresh low free (by rwa [point]) keeps)

/-- A snapshot the frame asks for, with the store idle, gives the bytes to send. -/
theorem settle_snapshot {s : State} {r : FrameRecord} {i : SlotIx} (idle : StoreIdle s) (inFrame : s.frame = some r) :
    settle (requestForFrame i .snapshot s) = s.withRecord { r with toSend := snapshotAnswer r i s } := by
  rw [settle_requestForFrame idle]
  simp [frameAccessEnds, applyAccess, modifyFrame, inFrame, State.withRecord]

/-- A sender's answer byte: it goes on to its check where one byte is left. -/
theorem answerByteRead_sender {r : FrameRecord} {b : Byte} {tail : List Byte} (k : Kind) (read : Byte) (s : State)
    (toSend : r.toSend = b :: tail) (more : tail ≠ []) : answerByteRead k r read s =
      s.withRecord (FrameRecord.fieldDone { r with answer := r.answer ++ [read], toSend := tail }
        (if tail.length = 1 then .answerCheck else .answer)) := by
  obtain ⟨c, tail, rfl⟩ := List.exists_cons_of_ne_nil more
  have goes : answerGoesOn k { r with answer := r.answer ++ [read], toSend := c :: tail } = decide (tail ≠ []) := by
    cases tail <;> simp [answerGoesOn]
  unfold answerByteRead
  dsimp only
  rw [toSend, List.tail_cons, goes]
  cases tail <;> rfl

/-- An answer byte. -/
theorem byteRead_answer {q : FrameRecord} {k : Kind} (point : q.point = .answer) (kind : q.kind = some k) (own others read : Byte)
    (s : State) : byteRead read (s.withRecord (q.withByte own others)) =
      answerByteRead k (q.withByte own others) read (s.withRecord (q.withByte own others)) := by
  have at' : (q.withByte own others).point = .answer := point
  have same : (q.withByte own others).kind = some k := kind
  simp [byteRead, at', same]

/-- What a sender places in an answer byte. -/
theorem ownByte_answer {q : FrameRecord} {b : Byte} {tail : List Byte} (point : q.point = .answer) (toSend : q.toSend = b :: tail)
    (s : State) : ownByte q s = b := by simp [ownByte, point, toSend]

/-! ### The holder's first answer byte -/

/-- The holder of a READ within its page has the words ready once its snapshot has ended, and sends its status first. -/
theorem readHolder_sends {s : State} {r : FrameRecord} {i : SlotIx} (stands : StandsAt s r .read .answer) (fresh : r.low = false)
    (answer : r.answer = []) (won : r.contest = .won) (slot : r.slot = some i) (idle : StoreIdle s)
    (fits : r.reqOffset + r.reqCount ≤ 128) :
    let b : Byte := if (s.slot i).damaged then 0x02 else 0x01
    let words := wordsBytes (((s.store.page i).drop r.reqOffset).take r.reqCount)
    ∃ t r', exec (.readFrame [.byte 0xFF]) s = .next t ∧ t.frame = some r' ∧ r'.answer = [b] ∧
      r'.toSend = words ++ [crc8 (b :: words)] ∧ r'.point = .answer ∧ t.slots = s.slots ∧ t.store = s.store ∧ StoreIdle t := by
  intro b words
  have kind : r.kind = some .read := kind_of_code stands.2.1
  have within : ¬ r.pastPage = true := fun past => absurd (of_decide_eq_true past) (by simpa [Config.wordsPerPage] using fits)
  have snapshot : snapshotAnswer r.lowered i (s.atSample s.prot r) = b :: (words ++ [crc8 (b :: words)]) := by
    have same : r.lowered.kind = some .read := kind
    simp only [snapshotAnswer, same]
    rfl
  have prepared : ready (readProt (rowProt .read false s) s) = (s.atSample s.prot r).withRecord
      { r.lowered with toSend := b :: (words ++ [crc8 (b :: words)]) } := by
    rw [ready, (stands.readProt _).lowPhase_fresh fresh, prepares_read stands.2.2.1 answer won slot, readHolderBegins, if_neg within,
      ← snapshot]
    exact settle_snapshot (by exact idle) rfl
  have runs := stands.exec_byte_prepared false 0xFF (by decide) (by decide) prepared rfl rfl ⟨rfl, rfl, stands.2.2.2.2.1⟩
    (busyFor_idle (by exact idle) _) (Or.inl (by decide)) (losesNothing_alone _ _)
  generalize read : ({ r.lowered with toSend := b :: (words ++ [crc8 (b :: words)]) } : FrameRecord) = q at runs
  have point : q.point = .answer := by rw [← read]; exact stands.2.2.1
  have same : q.kind = some .read := by rw [← read]; exact kind
  have toSend : q.toSend = b :: (words ++ [crc8 (b :: words)]) := by rw [← read]
  have begun : q.answer = [] := by rw [← read]; exact answer
  rw [ownByte_answer point toSend, show b &&& 0xFF = b from BitVec.and_allOnes, byteRead_answer point same,
    answerByteRead_sender (r := q.withByte b 0xFF) .read b _ toSend (by simp), withRecord_withRecord, withRecord_withRecord] at runs
  have words' : 0 < words.length := by
    have length : words.length = 2 * (((s.store.page i).drop r.reqOffset).take r.reqCount).length := length_wordsBytes _
    simp only [List.length_take, List.length_drop, Store.page, List.length_map, List.length_range, Config.wordsPerPage] at length
    have count : 1 ≤ r.reqCount := by simp [FrameRecord.reqCount]
    omega
  have quiet : s.arbiter = Arbiter.idle := idle
  refine ⟨_, _, runs, rfl, ?_, rfl, if_neg ?_, rfl, rfl, quiet⟩
  · exact congrArg (· ++ [b]) begun
  · simp only [List.length_append, List.length_singleton]
    omega

/-! ### The originator's closing -/

/-- A READ that leaves the queue touches no slot and no fault record. -/
theorem headEnds_read_keeps {e : Entry} {page : PageId} {offset : Byte} {count : Nat} (body : e.body = .read page offset count)
    (rest : List Entry) (code : Code) (holder : Option StationNo) (status : Option Bool) (words : List Word) (s : State) :
    (headEnds e rest code holder status words s).slots = s.slots ∧ (headEnds e rest code holder status words s).faults = s.faults := by
  rw [headEnds_read body]
  exact ⟨rfl, rfl⟩

/-- Nor does a try that is counted. -/
theorem countAttempt_read_keeps {s : State} {e : Entry} {rest : List Entry} {page : PageId} {offset : Byte} {count : Nat}
    (head : HeadInFlight s e rest) (body : e.body = .read page offset count) (cause : Code) :
    (countAttempt cause s).slots = s.slots ∧ (countAttempt cause s).faults = s.faults := by
  rw [countAttempt_head head]
  split
  · exact ⟨rfl, rfl⟩
  · split
    · exact ⟨rfl, rfl⟩
    · exact headEnds_read_keeps (e := { e with attempts := 3, inFlight := false }) body rest cause none none [] s

/-- Nor does one that completes. -/
theorem completeEntry_read_keeps {s : State} {e : Entry} {rest : List Entry} {page : PageId} {offset : Byte} {count : Nat}
    (head : HeadInFlight s e rest) (body : e.body = .read page offset count) (code : Code) (status : Option Bool) (words : List Word) :
    (completeEntry code none status words s).slots = s.slots ∧ (completeEntry code none status words s).faults = s.faults := by
  rw [completeEntry_head head]
  exact headEnds_read_keeps body rest code none status words s

/-- The status a READ's byte reads as, by its code. -/
theorem readStatus_code {b c : Byte} (code : b &&& 0x7F = c) : readStatus b =
    if c = 0x01 then .ok else if c = 0x02 then .damaged else if c = 0x04 then .range else .unlisted := by
  subst code
  rfl

/-- The settlement of a READ from a status leaves slots and fault records. -/
theorem settleRead_keeps {s : State} {r : FrameRecord} {e : Entry} {rest : List Entry} {page : PageId} {offset : Byte} {count : Nat}
    (own : ∃ request, s.own = some ⟨.entry, request⟩) (head : HeadInFlight s e rest) (body : e.body = .read page offset count)
    (st : BusStatus) : (settleRead r st s).slots = s.slots ∧ (settleRead r st s).faults = s.faults := by
  have counted := countAttempt_read_keeps head body .answerBad
  cases st with
  | ok => exact completeEntry_read_keeps head body _ _ _
  | damaged =>
    have flags := FlagsAdded.one own head .damaged
    obtain ⟨slots, faults⟩ := completeEntry_read_keeps flags.head body .damaged (some true) r.readWords
    exact ⟨slots.trans flags.slots, faults.trans flags.faults⟩
  | range => exact completeEntry_read_keeps head body _ _ _
  | applied => exact counted
  | prot => exact counted
  | worn => exact counted
  | unlisted => exact counted

/-- The originator's side of a READ's closing, by the holder, the check and the status byte. -/
theorem closeReadOriginator_noHolder {r : FrameRecord} (valid : r.voidRead = false) (unheld : r.holder = none) (s : State) :
    closeReadOriginator r s = completeEntry .noHolder none none [] (addFlag .noHolder s) := by
  simp [closeReadOriginator, valid, unheld]

/-- With a check that was not good. -/
theorem closeReadOriginator_bad {r : FrameRecord} {h : StationNo} (valid : r.voidRead = false) (holder : r.holder = some h)
    (bad : r.answerCheck ≠ some true) (s : State) : closeReadOriginator r s = countAttempt .answerBad s := by
  simp [closeReadOriginator, valid, holder, bad]

/-- With a good check. -/
theorem closeReadOriginator_good {r : FrameRecord} {h : StationNo} (valid : r.voidRead = false) (holder : r.holder = some h)
    (good : r.answerCheck = some true) (s : State) :
    closeReadOriginator r s = settleRead r ((r.statusByte.map readStatus).getD .unlisted) s := by
  simp [closeReadOriginator, valid, holder, good]

/-- The closing of a READ that is not void leaves slots and fault records. -/
theorem closeReadOriginator_keeps {s : State} {r : FrameRecord} {e : Entry} {rest : List Entry} {page : PageId} {offset : Byte}
    {count : Nat} (own : ∃ request, s.own = some ⟨.entry, request⟩) (head : HeadInFlight s e rest)
    (body : e.body = .read page offset count) (valid : r.voidRead = false) :
    (closeReadOriginator r s).slots = s.slots ∧ (closeReadOriginator r s).faults = s.faults := by
  cases holder : r.holder with
  | none =>
    rw [closeReadOriginator_noHolder valid holder]
    have flags := FlagsAdded.one own head .noHolder
    obtain ⟨slots, faults⟩ := completeEntry_read_keeps flags.head body .noHolder Option.none []
    exact ⟨slots.trans flags.slots, faults.trans flags.faults⟩
  | some h =>
    by_cases good : r.answerCheck = some true
    · rw [closeReadOriginator_good valid holder good]
      exact settleRead_keeps own head body _
    · rw [closeReadOriginator_bad valid holder good]
      exact countAttempt_read_keeps head body _

end Sys2Proof.Machine

namespace Sys2Proof.Proofs

open Sys2Proof.Machine

/-- Settles O58: the holder of a READ prepares its answer, RANGE or a snapshot, and its originator settles it at the closing. -/
theorem readHolderAndOutcome : Obligations.ReadHolderAndOutcome := by
  refine ⟨fun s r i stands fresh answer won slot idle => ?_, fun s r i stands fresh answer won slot idle fits => ?_,
    fun s r e rest page offset count stands origin head valid body free => ?_⟩
  · have runs := stands.exec_low false fresh
    rw [prepares_read stands.2.2.1 answer won slot] at runs
    by_cases past : r.pastPage = true
    · have beyond : 128 < r.reqOffset + r.reqCount := of_decide_eq_true past
      rw [readHolderBegins, if_pos past] at runs
      exact ⟨_, _, runs, rfl, rfl, rfl, fun _ => ⟨rfl, rfl⟩, fun within => absurd within (by omega)⟩
    · have within : ¬ 128 < r.reqOffset + r.reqCount := fun beyond => past (decide_eq_true beyond)
      rw [readHolderBegins, if_neg past, requestForFrame, request_idle _ _ _ (by exact idle)] at runs
      exact ⟨_, _, runs, rfl, rfl, rfl, fun beyond => absurd beyond within, fun _ => rfl⟩
  · exact readHolder_sends stands fresh answer won slot idle fits
  · have closes := stands.exec_closing false free (prepares_over_kind stands.2.2.1 (by decide))
    have originates : r.originates = true := beq_iff_eq.mpr origin.1
    have settles : ∀ u, closeFrame .read r u = closeReadOriginator r u := fun u => by
      simp [closeFrame, closeSlot, closeOriginator, originates, valid]
    rw [settles] at closes
    generalize rowProt .read false s = p at closes
    have other : e.isWrite = false := by simp [Entry.isWrite, body, EntryBody.kind]
    have start := FlagsAdded.start (s := s.atSample p r) origin.2 head
    intro completed
    have store : (closeReadOriginator r (s.atSample p r)).store = s.store := by
      rw [← settles]
      exact (closeFrame_effects .read r (s.atSample p r)).undisturbed.store
    obtain ⟨slots, faults⟩ := closeReadOriginator_keeps (r := r) start.own head body valid
    refine ⟨_, closes, slots, store, faults, rfl, fun unheld => ?_, fun h b holder byte good => ?_, fun h holder bad => ?_⟩
    · rw [closeReadOriginator_noHolder valid unheld]
      obtain ⟨filled, ended, -⟩ := (FlagsAdded.one start.own head .noHolder).completed other .noHolder Option.none Option.none []
      exact ⟨filled, ended⟩
    · rw [closeReadOriginator_good valid holder good, FrameRecord.statusByte, byte, Option.map_some, Option.getD_some]
      refine ⟨fun code => ?_, fun code => ?_, fun code => ?_, fun one two four => ?_⟩
      · have status : readStatus b = .ok := (readStatus_code code).trans rfl
        rw [status]
        obtain ⟨filled, ended, -⟩ := start.completed other .ok Option.none (some false) r.readWords
        exact ⟨filled, ended⟩
      · have status : readStatus b = .damaged := (readStatus_code code).trans rfl
        rw [status]
        obtain ⟨filled, ended, -⟩ :=
          (FlagsAdded.one start.own head .damaged).completed other .damaged Option.none (some true) r.readWords
        exact ⟨filled, ended⟩
      · have status : readStatus b = .range := (readStatus_code code).trans rfl
        rw [status]
        obtain ⟨filled, ended, -⟩ := start.completed other .range Option.none Option.none []
        exact ⟨filled, ended⟩
      · have status : readStatus b = .unlisted := by
          rw [readStatus_code rfl, if_neg one, if_neg two, if_neg four]
        rw [status]
        exact start.counted .answerBad
    · rw [closeReadOriginator_bad valid holder (by simp [bad])]
      exact start.counted .answerBad

end Sys2Proof.Proofs
end

section
/-! How the frames of an upkeep operation settle it at the originator's closing: a try counted, or a slot changed and the operation
ended; the VERIFY's decisions (R120 to R122, R131). -/

namespace Sys2Proof.Machine

/-! ### The upkeep operation and its slot -/

/-- From `s` to `u` flags were added in a frame of the upkeep operation in progress, and nothing else its end speaks of. -/
structure UpkeepFlags (s u : State) (f : BitVec 16) : Prop where
  goes    : UpkeepGoesOn s u f
  slots   : u.slots = s.slots
  store   : u.store = s.store
  latches : u.latches = s.latches
  station : u.station = s.station
  straps  : u.straps = s.straps
  own     : u.own = s.own

/-- No flag has been added yet. -/
theorem UpkeepFlags.start (s : State) : UpkeepFlags s s 0 := ⟨upkeepGoesOn_none s, rfl, rfl, rfl, rfl, rfl, rfl⟩

/-- One flag. -/
theorem UpkeepFlags.one {s : State} {k : Kind} {i : SlotIx} (own : ∃ request, s.own = some ⟨.upkeep k i, request⟩) (f : Flag) :
    UpkeepFlags s (addFlag f s) (withFlag f 0) := by
  obtain ⟨request, own⟩ := own
  exact ⟨addFlag_goesOn f own, by simp, by simp, by simp, by simp, by simp, by simp⟩

/-- One flag on a condition. -/
theorem UpkeepFlags.oneIf {s : State} {k : Kind} {i : SlotIx} (own : ∃ request, s.own = some ⟨.upkeep k i, request⟩) (b : Bool)
    (f : Flag) : UpkeepFlags s (addFlagIf b f s) (flagIf b f) := by
  cases b with
  | false => exact UpkeepFlags.start s
  | true => exact UpkeepFlags.one own f

/-- A slot under flags added. -/
theorem UpkeepFlags.slot {s u : State} {f : BitVec 16} (h : UpkeepFlags s u f) (i : SlotIx) : u.slot i = s.slot i :=
  slot_congr h.slots i

/-- The slot of the operation, in the state expected. -/
theorem upkeepSlot_of {s : State} {k : Kind} {i : SlotIx} {st : SlotState} (own : ∃ request, s.own = some ⟨.upkeep k i, request⟩)
    (state : (s.slot i).state = st) : upkeepSlot st s = some i := by
  obtain ⟨request, own⟩ := own
  simp [upkeepSlot, own, state]

/-- The operation acts on it. -/
theorem onUpkeepSlot_of {s : State} {k : Kind} {i : SlotIx} {st : SlotState} (own : ∃ request, s.own = some ⟨.upkeep k i, request⟩)
    (state : (s.slot i).state = st) (act : SlotIx → State → State) : onUpkeepSlot st act s = act i s := by
  simp [onUpkeepSlot, upkeepSlot_of own state]

/-- A failed try counts on it. -/
theorem failTry_of {s : State} {k : Kind} {i : SlotIx} {st : SlotState} (own : ∃ request, s.own = some ⟨.upkeep k i, request⟩)
    (state : (s.slot i).state = st) : failTry st s = failRecovery i s := by
  simp [failTry, upkeepSlot_of own state]

/-! ### The two ways it goes on -/

/-- A try of the operation on slot `i` has been counted, with flags added before. -/
structure RecoveryTried (s v : State) (i : SlotIx) (f : BitVec 16) : Prop where
  slot    : ∀ j, v.slot j = if j = i then (s.slot i).triedOnceMore else s.slot j
  tried   : UpkeepTried s v (s.slot i) f
  store   : v.store = s.store
  latches : v.latches = s.latches
  station : v.station = s.station

/-- What a failed recovery frame leaves alone. -/
theorem failRecovery_keeps {α : Type} (f : State → α) (slot : ∀ i r u, f (State.setSlot u i r) = f u) (ended : ∀ u, f (endUpkeep u) = f u)
    (i : SlotIx) (s : State) : f (failRecovery i s) = f s := by
  unfold failRecovery
  dsimp only
  split
  · exact slot _ _ _
  · split
    · exact slot _ _ _
    · exact (ended _).trans (slot _ _ _)

/-- A try counted after flags. -/
theorem UpkeepFlags.tried {s u : State} {f : BitVec 16} (h : UpkeepFlags s u f) (i : SlotIx) : RecoveryTried s (failRecovery i u) i f := by
  have tried := failRecovery_tried i u
  rw [h.slot] at tried
  refine ⟨fun j => ?_, upkeepTried_after h.goes tried, ?_, ?_, ?_⟩
  · rw [failRecovery_slot, h.slot, h.slot]
  · exact (failRecovery_keeps (·.store) (fun _ _ _ => rfl) endUpkeep_store i u).trans h.store
  · exact (failRecovery_keeps (·.latches) (fun _ _ _ => rfl) endUpkeep_latches i u).trans h.latches
  · exact (failRecovery_keeps (·.station) (fun _ _ _ => rfl) endUpkeep_station i u).trans h.station

/-- The operation has ended with slot `i` as given, with flags added before. -/
structure UpkeepSettled (s v : State) (i : SlotIx) (d : Slot) (f : BitVec 16) : Prop where
  slot    : ∀ j, v.slot j = if j = i then d else s.slot j
  ended   : UpkeepEnded s v f
  store   : v.store = s.store
  latches : v.latches = s.latches
  station : v.station = s.station

/-- The operation ends with its slot changed, after flags. -/
theorem UpkeepFlags.settled {s u : State} {f : BitVec 16} (h : UpkeepFlags s u f) (i : SlotIx) (d : Slot) :
    UpkeepSettled s (endUpkeep (u.setSlot i d)) i d f := by
  have ended : UpkeepEnded u (endUpkeep (u.setSlot i d)) 0 := endUpkeep_ended (u.setSlot i d)
  refine ⟨fun j => ?_, upkeepEnded_after h.goes ended, ?_, ?_, ?_⟩
  · rw [endUpkeep_slot, slot_setSlot, h.slot]
  · exact (endUpkeep_store _).trans h.store
  · exact (endUpkeep_latches _).trans h.latches
  · exact (endUpkeep_station _).trans h.station

/-- The operation ends with its slot as it stands. -/
theorem UpkeepFlags.settled_same {s u : State} {f : BitVec 16} (h : UpkeepFlags s u f) (i : SlotIx) :
    UpkeepSettled s (endUpkeep u) i (s.slot i) f := by
  refine ⟨fun j => ?_, upkeepEnded_after h.goes (endUpkeep_ended u), (endUpkeep_store _).trans h.store,
    (endUpkeep_latches _).trans h.latches, (endUpkeep_station _).trans h.station⟩
  rw [endUpkeep_slot, h.slot]
  split
  · next same => rw [same]
  · rfl

/-! ### The changes of a slot, by the slot -/

/-- A slot becomes PRIMARY. -/
theorem becomePrimary_eq (i : SlotIx) (p : Option StationNo) (damaged : Bool) (s : State) :
    becomePrimary i p damaged s = s.setSlot i ((s.slot i).primaryWith s.straps.ms p damaged) := rfl

/-- A slot becomes STALE. -/
theorem becomeStale_eq (i : SlotIx) (h : StationNo) (s : State) : becomeStale i (some h) s = s.setSlot i ((s.slot i).staleBehind h) :=
  rfl

/-! ### VERIFY -/

/-- REJOIN ends with its last DOUBT slot, and nothing else does. -/
theorem leaveRejoin_eq (s : State) :
    leaveRejoin s = { s with station := if s.station = .rejoin ∧ anyDoubt s = false then .run else s.station } := by
  unfold leaveRejoin
  split
  · rfl
  · rfl

/-- What the decision of a VERIFY makes of its DOUBT slot (R120). -/
def FrameRecord.verdict (r : FrameRecord) (ms : Bool) (d : Slot) : Slot :=
  match r.holder with
  | none => d.primaryWith ms d.partner d.damaged
  | some h => if r.presence = true ∨ d.version < r.answerVersion then d.staleBehind h else d.primaryWith ms (some h) d.damaged

/-- The flag it adds. -/
def FrameRecord.verdictFlags (r : FrameRecord) (d : Slot) : BitVec 16 :=
  if r.holder = none then 0
  else if r.presence = true ∨ d.version < r.answerVersion then withFlag .demoted 0
  else flagIf (decide (r.answerVersion < d.version)) .staleMirror

/-- The decision settles the operation, and REJOIN may end with it. -/
theorem verifyDecides_settled {s : State} {k : Kind} {i : SlotIx} (r : FrameRecord)
    (own : ∃ request, s.own = some ⟨.upkeep k i, request⟩) : ∃ x, verifyDecides r i s = leaveRejoin x ∧
      UpkeepSettled s x i (r.verdict s.straps.ms (s.slot i)) (r.verdictFlags (s.slot i)) := by
  unfold FrameRecord.verdict FrameRecord.verdictFlags verifyDecides
  dsimp only
  cases r.holder with
  | none => exact ⟨_, rfl, (UpkeepFlags.start s).settled i _⟩
  | some h =>
    have demoted := UpkeepFlags.one own .demoted
    have same := demoted.slot i
    simp only [reduceCtorEq, if_false]
    by_cases presence : r.presence = true
    · rw [if_pos presence, if_pos (Or.inl presence), if_pos (Or.inl presence), becomeStale_eq, same]
      exact ⟨_, rfl, demoted.settled i _⟩
    · rw [if_neg presence]
      by_cases newer : (s.slot i).version < r.answerVersion
      · rw [if_pos newer, if_pos (Or.inr newer), if_pos (Or.inr newer), becomeStale_eq, same]
        exact ⟨_, rfl, demoted.settled i _⟩
      · have mirror := UpkeepFlags.oneIf own (decide (r.answerVersion < (s.slot i).version)) .staleMirror
        have whole : ¬ (r.presence = true ∨ (s.slot i).version < r.answerVersion) := fun found => found.elim presence newer
        rw [if_neg newer, if_neg whole, if_neg whole, becomePrimary_eq, mirror.slot, mirror.straps]
        exact ⟨_, rfl, mirror.settled i _⟩

/-- REJOIN ends where no slot is left DOUBT. -/
theorem leaveRejoin_station (s : State) :
    (s.station = .rejoin → (∀ j, (s.slot j).state ≠ .doubt) → (leaveRejoin s).station = .run) ∧
      (s.station ≠ .rejoin ∨ (∃ j, (s.slot j).state = .doubt) → (leaveRejoin s).station = s.station) := by
  rw [leaveRejoin_eq]
  refine ⟨fun rejoin decided => if_pos ⟨rejoin, anyDoubt_false.mpr decided⟩, fun stays => if_neg ?_⟩
  rintro ⟨rejoin, decided⟩
  rcases stays with other | ⟨j, doubt⟩
  · exact other rejoin
  · exact anyDoubt_false.mp decided j doubt

/-- A decided slot is no longer DOUBT. -/
theorem verdict_state (r : FrameRecord) (ms : Bool) (d : Slot) : (r.verdict ms d).state ≠ .doubt := by
  unfold FrameRecord.verdict
  split
  · simp [Slot.primaryWith]
  · split <;> simp [Slot.staleBehind, Slot.primaryWith]

/-- What a decided VERIFY leaves. -/
structure VerifyDecided (s v : State) (i : SlotIx) (d : Slot) (f : BitVec 16) : Prop where
  slot    : ∀ j, v.slot j = if j = i then d else s.slot j
  ended   : UpkeepEnded s v f
  store   : v.store = s.store
  latches : v.latches = s.latches
  run     : s.station = .rejoin → (∀ j, (v.slot j).state ≠ .doubt) → v.station = .run
  stays   : s.station ≠ .rejoin ∨ (∃ j, (v.slot j).state = .doubt) → v.station = s.station

/-- The decision, with the end of REJOIN. -/
theorem verifyDecides_decided {s : State} {k : Kind} {i : SlotIx} (r : FrameRecord)
    (own : ∃ request, s.own = some ⟨.upkeep k i, request⟩) :
    VerifyDecided s (verifyDecides r i s) i (r.verdict s.straps.ms (s.slot i)) (r.verdictFlags (s.slot i)) := by
  obtain ⟨x, decides, slot, ended, store, latches, station⟩ := verifyDecides_settled r own
  obtain ⟨leaves, stays⟩ := leaveRejoin_station x
  have same := leaveRejoin_eq x
  rw [decides]
  have slots : ∀ j, (leaveRejoin x).slot j = x.slot j := fun j => by rw [same]; rfl
  rw [station] at leaves stays
  refine ⟨fun j => (slots j).trans (slot j), ?_, ?_, ?_, fun rejoin decided => leaves rejoin fun j => ?_, fun found => stays ?_⟩
  · rw [same]
    exact ended
  · rw [same]
    exact store
  · rw [same]
    exact latches
  · rw [← slots]
    exact decided j
  · simpa only [slots] using found

/-- The closing of a VERIFY that reached a decision. -/
theorem closeVerifyOriginator_decided {r : FrameRecord} {s : State} {k : Kind} {i : SlotIx} (valid : r.voidRead = false)
    (own : ∃ request, s.own = some ⟨.upkeep k i, request⟩) (doubt : (s.slot i).state = .doubt)
    (reached : (r.holder = none ∧ r.presence = false ∧ r.fill = false) ∨ (r.holder.isSome = true ∧ r.answerCheck = some true)) :
    closeVerifyOriginator r s = verifyDecides r i s := by
  rcases reached with ⟨holder, presence, fill⟩ | ⟨holder, good⟩
  · simp [closeVerifyOriginator, valid, holder, presence, fill, onUpkeepSlot_of own doubt]
  · obtain ⟨h, holder⟩ := Option.isSome_iff_exists.mp holder
    simp [closeVerifyOriginator, valid, holder, good, onUpkeepSlot_of own doubt]

/-- The closing of one that did not. -/
theorem closeVerifyOriginator_failed {r : FrameRecord} {s : State} {k : Kind} {i : SlotIx} (valid : r.voidRead = false)
    (own : ∃ request, s.own = some ⟨.upkeep k i, request⟩) (doubt : (s.slot i).state = .doubt) :
    (∀ h, r.holder = some h → r.answerCheck ≠ some true → closeVerifyOriginator r s = failRecovery i s) ∧
      (r.holder = none → r.presence = true ∨ r.fill = true →
        closeVerifyOriginator r s = failRecovery i (addFlag .answerBad s)) := by
  refine ⟨fun h holder bad => ?_, fun unheld role => ?_⟩
  · simp [closeVerifyOriginator, valid, holder, bad, failTry_of own doubt]
  · have own' : ∃ request, (addFlag .answerBad s).own = some ⟨.upkeep k i, request⟩ := by simpa using own
    have doubt' : ((addFlag .answerBad s).slot i).state = .doubt := by simpa using doubt
    simp [closeVerifyOriginator, valid, unheld, role, failTry_of own' doubt']

/-- The filling mirror's side of a VERIFY (R121). -/
theorem closeFrame_verify_mirror {r : FrameRecord} {i : SlotIx} {s : State} (valid : r.voidRead = false) (part : r.part = .participant)
    (slot : r.slot = some i) (fill : r.roleDrive = .fill) (won : r.contest = .won) (mirror : (s.slot i).state = .mirror) :
    closeFrame .verify r s =
      if r.reqVersion < (s.slot i).version then reportRole true (becomePrimary i none (s.slot i).damaged s)
      else if (s.slot i).version < r.reqVersion then reportRole false (becomeStale i (s.slot i).partner s)
      else s := by
  have reads : r.originates = false ∧ r.participates = true := by simp [FrameRecord.originates, FrameRecord.participates, part]
  simp only [closeFrame, closeSlot, valid, reads, onSlotOfRecord, slot, Bool.false_eq_true, if_false, if_true]
  exact if_pos ⟨fill, won, mirror⟩

end Sys2Proof.Machine

namespace Sys2Proof.Proofs

open Sys2Proof.Machine

/-- Settles O49: the decision of a VERIFY at its originator, or a try counted; the decision of the mirror that filled. -/
theorem verifyDecisions : Obligations.VerifyDecisions := by
  refine ⟨fun s r i stands valid origin free doubt => ?_, fun s r i stands valid part fill won slot free mirror => ?_⟩
  · have closes := stands.exec_closing false free (prepares_over_kind stands.2.2.1 (by decide))
    have originates : r.originates = true := beq_iff_eq.mpr origin.1
    have made : ∀ u, closeFrame .verify r u = closeVerifyOriginator r u := fun u => by
      simp [closeFrame, closeSlot, closeOriginator, originates, valid, FrameRecord.participates, origin.1]
    rw [made] at closes
    generalize rowProt .verify false s = p at closes
    intro d
    have own : ∃ request, (s.atSample p r).own = some ⟨.upkeep .verify i, request⟩ := origin.2
    have doubt' : ((s.atSample p r).slot i).state = .doubt := doubt
    refine ⟨_, closes, rfl, ?_⟩
    simp only [dropFrame_slot, dropFrame_store, dropFrame_latches, dropFrame_station]
    by_cases reached : (r.holder = none ∧ r.presence = false ∧ r.fill = false) ∨ (r.holder.isSome = true ∧ r.answerCheck = some true)
    · obtain ⟨slot, ended, store, latches, run, stays⟩ := verifyDecides_decided r own
      rw [closeVerifyOriginator_decided valid own doubt' reached]
      generalize verifyDecides r i (s.atSample p r) = v at slot ended store latches run stays
      simp only [atSample_slot, atSample_straps] at slot ended
      have mine : v.slot i = r.verdict s.straps.ms d := (slot i).trans (if_pos rfl)
      have others : ∀ j, j ≠ i → v.slot j = s.slot j := fun j other => (slot j).trans (if_neg other)
      have ends : ∀ d' f, r.verdict s.straps.ms d = d' → r.verdictFlags d = f → v.slot i = d' ∧ UpkeepEnded s v f :=
        fun d' f slotIs flagsAre => by
          subst slotIs flagsAre
          exact ⟨mine, ended⟩
      refine ⟨store, others, latches, fun h holder good presence => ends _ _ ?_ ?_, fun m holder good quiet fill old => ends _ _ ?_ ?_,
        fun m holder good quiet fill newer => ends _ _ ?_ ?_, fun unheld quiet empty => ends _ _ ?_ ?_, fun h holder bad => ?_,
        fun unheld role => ?_, fun rejoin decided rest => run rejoin fun j => ?_, stays⟩
      · simp [FrameRecord.verdict, holder, presence]
      · simp [FrameRecord.verdictFlags, holder, presence]
      · simp [FrameRecord.verdict, holder, quiet, BitVec.not_lt.mpr old]
      · simp [FrameRecord.verdictFlags, holder, quiet, BitVec.not_lt.mpr old]
      · simp [FrameRecord.verdict, holder, newer]
      · simp [FrameRecord.verdictFlags, holder, newer]
      · simp [FrameRecord.verdict, unheld]
      · simp [FrameRecord.verdictFlags, unheld]
      · simp [holder, bad] at reached
      · rcases role with role | role <;> simp [unheld, role] at reached
      · by_cases here : j = i
        · rwa [here]
        · rw [others j here]
          exact rest j here
    · obtain ⟨bad, unread⟩ := closeVerifyOriginator_failed valid own doubt'
      have failed : ∃ f, RecoveryTried (s.atSample p r) (closeVerifyOriginator r (s.atSample p r)) i f ∧
          (∀ h, r.holder = some h → f = 0) ∧ (r.holder = none → f = withFlag .answerBad 0) := by
        cases holder : r.holder with
        | some h =>
          have poor : r.answerCheck ≠ some true := fun good => reached (Or.inr ⟨by simp [holder], good⟩)
          rw [bad h holder poor]
          exact ⟨0, (UpkeepFlags.start _).tried i, fun _ _ => rfl, fun absent => by simp at absent⟩
        | none =>
          have role : r.presence = true ∨ r.fill = true := by
            by_contra quiet
            simp only [not_or, Bool.not_eq_true] at quiet
            exact reached (Or.inl ⟨holder, quiet⟩)
          rw [unread holder role]
          exact ⟨_, (UpkeepFlags.one own .answerBad).tried i, fun _ absent => by simp at absent, fun _ => rfl⟩
      obtain ⟨f, ⟨slot, tried, store, latches, station⟩, held, unheld⟩ := failed
      generalize closeVerifyOriginator r (s.atSample p r) = v at slot tried store latches station
      simp only [atSample_slot] at slot tried
      have mine : v.slot i = d.triedOnceMore := (slot i).trans (if_pos rfl)
      have others : ∀ j, j ≠ i → v.slot j = s.slot j := fun j other => (slot j).trans (if_neg other)
      refine ⟨store, others, latches, fun h holder good => absurd (Or.inr ⟨by simp [holder], good⟩) reached,
        fun h holder good => absurd (Or.inr ⟨by simp [holder], good⟩) reached,
        fun h holder good => absurd (Or.inr ⟨by simp [holder], good⟩) reached,
        fun absent presence fill => absurd (Or.inl ⟨absent, presence, fill⟩) reached, fun h holder _ => ⟨mine, ?_⟩,
        fun absent _ => ⟨mine, ?_⟩, fun _ decided => ?_, fun _ => station⟩
      · rw [← held h holder]
        exact tried
      · rw [← unheld absent]
        exact tried
      · rw [mine] at decided
        exact absurd doubt decided
  · have closes := stands.exec_closing false free (prepares_over_participant stands.2.2.1 part)
    generalize rowProt .verify false s = p at closes
    rw [closeFrame_verify_mirror valid part slot fill won (by exact mirror)] at closes
    intro d
    have slots : ∀ d' j, ((s.atSample p r).setSlot i d').slot j = if j = i then d' else s.slot j := fun d' j => slot_setSlot _ _ _ _
    refine ⟨_, closes, rfl, ?_⟩
    simp only [dropFrame_slot, dropFrame_store, dropFrame_latches, dropFrame_accrued]
    by_cases newer : r.reqVersion < d.version
    · rw [if_pos (by exact newer)]
      refine ⟨rfl, fun j other => (slots _ j).trans (if_neg other), fun _ => ⟨(slots _ i).trans (if_pos rfl), rfl, rfl⟩,
        fun older => ?_, fun same => ?_⟩
      · exact absurd newer (by simpa using BitVec.le_of_lt older)
      · rw [same] at newer
        exact absurd newer (BitVec.lt_irrefl _)
    · rw [if_neg (by exact newer)]
      by_cases older : d.version < r.reqVersion
      · rw [if_pos (by exact older)]
        refine ⟨rfl, fun j other => (slots _ j).trans (if_neg other), fun newer' => absurd newer' newer,
          fun _ => ⟨(slots _ i).trans (if_pos rfl), rfl, rfl⟩, fun same => ?_⟩
        rw [same] at older
        exact absurd older (BitVec.lt_irrefl _)
      · rw [if_neg (by exact older)]
        exact ⟨rfl, fun _ _ => rfl, fun newer' => absurd newer' newer, fun older' => absurd older' older, fun _ => ⟨rfl, rfl⟩⟩

end Sys2Proof.Proofs
end

section
/-! RESYNC and REPAIR at their originator: the load their closing prepares, and the settlement by it (R124, R125, R128, R129). -/

namespace Sys2Proof.Machine

/-! ### A closing that prepares a load -/

/-- A row that closes a frame, with what its low phase has made of the station. -/
theorem StandsAt.exec_closing_prepared {s w : State} {r : FrameRecord} {k : Kind} (h : StandsAt s r k .over) (prot : Bool)
    {load : LoadDecision} (prepared : ready (Machine.readProt (rowProt k prot s) s) = w) (found : w.frame = some (r.toClose load)) :
    exec (frameRow k prot [.closing]) s = .next (dropFrame r (closeFrame k (r.toClose load) w)) := by
  subst prepared
  have stands : StandsAt (Machine.readProt (rowProt k prot s) s) r k .over := h
  rw [exec_frameRow, frameEvents_cons, frameEvents_nil, stands.closing_ready found]
  rfl

/-- The station once the page load of a closing has been made. -/
def State.loaded (s : State) (r : FrameRecord) (i : SlotIx) : State :=
  applyAccess i (.pageLoad r.answerVersion r.streamWords r.streamCheck) (s.withRecord (r.toClose .requested))

@[simp] theorem loaded_slot (s : State) (r : FrameRecord) (i j : SlotIx) : (s.loaded r i).slot j =
    if j = i then { s.slot i with version := r.answerVersion, check := r.streamCheck } else s.slot j := slot_setSlot _ _ _ _
@[simp] theorem loaded_store (s : State) (r : FrameRecord) (i : SlotIx) :
    (s.loaded r i).store = s.store.writeWords i 0 r.streamWords := by
  rw [State.loaded, applyAccess, setSlot_store]
  rfl
@[simp] theorem loaded_own (s : State) (r : FrameRecord) (i : SlotIx) : (s.loaded r i).own = s.own := rfl
@[simp] theorem loaded_straps (s : State) (r : FrameRecord) (i : SlotIx) : (s.loaded r i).straps = s.straps := rfl
@[simp] theorem loaded_latches (s : State) (r : FrameRecord) (i : SlotIx) : (s.loaded r i).latches = s.latches := rfl

/-- With the store idle a page load is made before the closing where PROT is low, and kept back where it is high. -/
theorem settle_pageLoad {s : State} {r : FrameRecord} {k : Kind} {i : SlotIx} {st : SlotState} (inFrame : s.frame = some r.lowered)
    (own : ∃ request, s.own = some ⟨.upkeep k i, request⟩) (state : (s.slot i).state = st) (idle : StoreIdle s) :
    (s.prot = true → settle (pageLoadBegins st r s) = s.withRecord (r.toClose .keptBack)) ∧
      (s.prot = false → settle (pageLoadBegins st r s) = s.loaded r i) := by
  have marked : ∀ load, modifyFrame (fun r => { r with load := load }) s = s.withRecord (r.toClose load) := fun load => by
    simp [modifyFrame, State.withRecord, inFrame, FrameRecord.toClose]
  unfold pageLoadBegins
  rw [upkeepSlot_of own state]
  dsimp only
  refine ⟨fun high => ?_, fun low => ?_⟩
  · rw [if_pos high, marked]
    exact settle_free (busyFor_idle (by exact idle) _)
  · rw [if_neg (by simp [low]), marked, settle_requestForFrame (by exact idle)]
    rfl

/-! ### RESYNC -/

/-- A RESYNC of which the originator has a good answer prepares its load. -/
theorem prepares_resync {r : FrameRecord} (point : r.point = .over) (valid : r.voidRead = false) (origin : r.part = .originator)
    (s : State) :
    r.prepares .resync s = if r.choice = true ∧ r.answerCheck = some true then pageLoadBegins .stale r s else s := by
  simp [FrameRecord.prepares, point, closingBegins, FrameRecord.originates, origin, valid]

/-- The closing of a RESYNC at its originator. -/
theorem closeFrame_resync {r : FrameRecord} (valid : r.voidRead = false) (origin : r.part = .originator) (load : LoadDecision)
    (s : State) : closeFrame .resync (r.toClose load) s = closeResyncOriginator (r.toClose load) s := by
  have originates : (r.toClose load).originates = true := beq_iff_eq.mpr origin
  simp [closeFrame, closeSlot, closeOriginator, originates]

/-- Freeing the slot of an operation and ending it is ending it with its slot freed. -/
theorem endUpkeep_freeSlot (i : SlotIx) (s : State) : endUpkeep (freeSlot i s) = endUpkeep (s.setSlot i Slot.freed) := by
  have twice : ∀ u : State, endUpkeep (endUpkeep u) = endUpkeep u := fun u => by
    cases op : u.upkeep <;> simp [endUpkeep, op]
  unfold freeSlot
  dsimp only
  split
  · split
    · exact twice _
    · rfl
  · rfl

section
variable {r : FrameRecord} {s : State} {i : SlotIx} {load : LoadDecision}

/-- A RESYNC loaded: its copy becomes MIRROR of the holder. -/
theorem closeResyncOriginator_loaded {h : StationNo} (own : ∃ request, s.own = some ⟨.upkeep .resync i, request⟩)
    (stale : (s.slot i).state = .stale) (valid : r.voidRead = false) (holder : r.holder = some h) (choice : r.choice = true)
    (good : r.answerCheck = some true) (made : r.load = .requested) :
    UpkeepSettled s (closeResyncOriginator r s) i { s.slot i with
      state := .mirror, partner := some h, damaged := false, seekDue := false, recoveryDue := false, attempts := 0 } 0 := by
  have closes : closeResyncOriginator r s = endUpkeep (becomeMirror i h s) := by
    simp [closeResyncOriginator, valid, holder, choice, good, made, onUpkeepSlot_of own stale]
  rw [closes]
  exact (UpkeepFlags.start s).settled i _

/-- A RESYNC whose load PROT kept back. -/
theorem closeResyncOriginator_keptBack {h : StationNo} (own : ∃ request, s.own = some ⟨.upkeep .resync i, request⟩)
    (stale : (s.slot i).state = .stale) (valid : r.voidRead = false) (holder : r.holder = some h) (choice : r.choice = true)
    (good : r.answerCheck = some true) (kept : r.load = .keptBack) :
    RecoveryTried s (closeResyncOriginator r s) i (withFlag .prot 0) := by
  have flags := UpkeepFlags.one own .prot
  have closes : closeResyncOriginator r s = failTry .stale (addFlag .prot s) := by
    simp [closeResyncOriginator, valid, holder, choice, good, kept]
  rw [closes, failTry_of (by rw [flags.own]; exact own) (by rw [flags.slot]; exact stale)]
  exact flags.tried i

/-- A RESYNC accepted, its answer not good. -/
theorem closeResyncOriginator_bad {h : StationNo} (own : ∃ request, s.own = some ⟨.upkeep .resync i, request⟩)
    (stale : (s.slot i).state = .stale) (valid : r.voidRead = false) (holder : r.holder = some h) (choice : r.choice = true)
    (bad : r.answerCheck ≠ some true) : RecoveryTried s (closeResyncOriginator r s) i 0 := by
  have closes : closeResyncOriginator r s = failTry .stale s := by
    simp [closeResyncOriginator, valid, holder, choice, bad]
  rw [closes, failTry_of own stale]
  exact (UpkeepFlags.start s).tried i

/-- A RESYNC refused: its copy is freed. -/
theorem closeResyncOriginator_refused {h : StationNo} (own : ∃ request, s.own = some ⟨.upkeep .resync i, request⟩)
    (stale : (s.slot i).state = .stale) (valid : r.voidRead = false) (holder : r.holder = some h) (choice : r.choice = false) :
    UpkeepSettled s (closeResyncOriginator r s) i Slot.freed (withFlag .refused 0) := by
  have flags := UpkeepFlags.one own .refused
  have closes : closeResyncOriginator r s = onUpkeepSlot .stale (fun i s => endUpkeep (freeSlot i s)) (addFlag .refused s) := by
    simp [closeResyncOriginator, valid, holder, choice]
  rw [closes, onUpkeepSlot_of (by rw [flags.own]; exact own) (by rw [flags.slot]; exact stale), endUpkeep_freeSlot]
  exact flags.settled i _

/-- A RESYNC that found no holder. -/
theorem closeResyncOriginator_noHolder (own : ∃ request, s.own = some ⟨.upkeep .resync i, request⟩)
    (stale : (s.slot i).state = .stale) (valid : r.voidRead = false) (unheld : r.holder = none) (presence : r.presence = false)
    (fill : r.fill = false) :
    UpkeepSettled s (closeResyncOriginator r s) i { s.slot i with attempts := 3, recoveryDue := false } (withFlag .noHolder 0) := by
  have flags := UpkeepFlags.one own .noHolder
  have closes : closeResyncOriginator r s = onUpkeepSlot .stale spendRecovery (addFlag .noHolder s) := by
    simp [closeResyncOriginator, valid, unheld, presence, fill]
  rw [closes, onUpkeepSlot_of (by rw [flags.own]; exact own) (by rw [flags.slot]; exact stale), spendRecovery, flags.slot]
  exact flags.settled i _

/-- A RESYNC whose role bits contradict its holder byte. -/
theorem closeResyncOriginator_torn (own : ∃ request, s.own = some ⟨.upkeep .resync i, request⟩)
    (stale : (s.slot i).state = .stale) (valid : r.voidRead = false) (unheld : r.holder = none)
    (role : r.presence = true ∨ r.fill = true) : RecoveryTried s (closeResyncOriginator r s) i (withFlag .answerBad 0) := by
  have flags := UpkeepFlags.one own .answerBad
  have closes : closeResyncOriginator r s = failTry .stale (addFlag .answerBad s) := by
    simp [closeResyncOriginator, valid, unheld, role]
  rw [closes, failTry_of (by rw [flags.own]; exact own) (by rw [flags.slot]; exact stale)]
  exact flags.tried i

end

/-! ### The accept bit -/

/-- The holder of a RESYNC drives the accept bit where it has no partner or has the originator. -/
theorem ownBit_accept {r : FrameRecord} {s : State} {i : SlotIx} (point : r.point = .accept) (won : r.contest = .won)
    (slot : r.slot = some i) (primary : (s.slot i).state = .primary) :
    ownBit r s = ((s.slot i).partner == none || (s.slot i).partner == some r.originator) := by
  simp [ownBit, point, drivesAccept, FrameRecord.holds, won, slotOfRecord, slot, primary]

/-- Driven, it records the originator as partner. -/
theorem acceptBit_driven {r : FrameRecord} {i : SlotIx} (slot : r.slot = some i) (s : State) :
    acceptBit r true true s = (reportRole false (gainPartner i r.originator s)).withRecord
      { r.fieldDone .answer with choice := true, choiceDriven := true } := by
  simp only [acceptBit, if_true, onSlotOfRecord, slot]
  rfl

/-- Left undriven by all, it changes nothing. -/
theorem acceptBit_undriven (r : FrameRecord) (s : State) :
    acceptBit r false false s = s.withRecord { r.fieldDone .over with choice := false, choiceDriven := false } := rfl

end Sys2Proof.Machine

namespace Sys2Proof.Proofs

open Sys2Proof.Machine

/-- Settles O50: the accept bit by the holder's partner, and the originator's settlement by the load its closing made. -/
theorem resyncDecisions : Obligations.ResyncDecisions := by
  refine ⟨fun prot s r i stands won slot primary free => ?_, fun prot s r i stands valid fresh origin idle stale unheld => ?_⟩
  · have runs := stands.exec_bit prot false (by decide) free (prepares_plain (by rw [stands.2.2.1]; decide))
    generalize rowProt .resync prot s = p at runs
    have point : r.lowered.point = .accept := stands.2.2.1
    have drives := ownBit_accept (s := s.atSample p r) point (by exact won) (by exact slot) (by exact primary)
    rw [singleBit_accept point, Bool.or_false] at runs
    refine ⟨fun accepts => ?_, fun partnered other => ?_⟩
    · have yes : ownBit r.lowered (s.atSample p r) = true := by
        rw [drives, Bool.or_eq_true, beq_iff_eq, beq_iff_eq]
        exact accepts
      rw [yes, acceptBit_driven (by exact slot)] at runs
      exact ⟨_, _, runs, rfl, rfl, rfl, slot_setSlot_same _ i _, fun j other => slot_setSlot_ne _ _ other, rfl, rfl⟩
    · have no : ownBit r.lowered (s.atSample p r) = false := by
        rw [drives, Bool.or_eq_false_iff, beq_eq_false_iff_ne, beq_eq_false_iff_ne]
        exact ⟨partnered, other⟩
      rw [no, acceptBit_undriven] at runs
      exact ⟨_, _, runs, rfl, rfl, rfl, rfl, rfl, rfl⟩
  · intro d
    have point : r.point = .over := stands.2.2.1
    have reached := (stands.readProt prot).lowPhase_fresh fresh
    have inFrame : (s.atSample prot r).frame = some r.lowered := rfl
    have own : ∃ request, (s.atSample prot r).own = some ⟨.upkeep .resync i, request⟩ := origin.2
    have load := settle_pageLoad (i := i) inFrame own (by exact stale) (by exact idle)
    rw [prepares_resync point valid origin.1] at reached
    by_cases good : r.choice = true ∧ r.answerCheck = some true
    · rw [if_pos good] at reached
      obtain ⟨h, holder⟩ : ∃ h, r.holder = some h := Option.ne_none_iff_exists'.mp fun none => by simp [unheld none] at good
      cases prot with
      | false =>
        have ready : ready (readProt false s) = (s.atSample false r).loaded r i := by
          rw [ready, reached]
          exact load.2 rfl
        have closes := stands.exec_closing_prepared false ready rfl
        rw [closeFrame_resync valid origin.1] at closes
        obtain ⟨slot, ended, store, latches, -⟩ := closeResyncOriginator_loaded (r := r.toClose .requested)
          (s := (s.atSample false r).loaded r i) own (by rw [loaded_slot, if_pos rfl]; exact stale) valid holder good.1 good.2 rfl
        generalize closeResyncOriginator (r.toClose .requested) ((s.atSample false r).loaded r i) = v at closes slot ended store latches
        simp only [loaded_slot, loaded_store, if_pos, atSample_slot] at slot store
        have others : ∀ j, j ≠ i → v.slot j = s.slot j := fun j other => by rw [slot, if_neg other, if_neg other]
        refine ⟨_, closes, rfl, others, latches, fun h' held _ _ _ => ⟨?_, store, ended⟩, fun _ _ _ _ high => by simp at high,
          fun _ _ _ bad => absurd good.2 bad, fun _ _ refused => by simp [good.1] at refused, fun none => by simp [holder] at none,
          fun none => by simp [holder] at none⟩
        obtain rfl := Option.some.inj (holder.symm.trans held)
        exact (slot i).trans (if_pos rfl)
      | true =>
        have ready : ready (readProt true s) = (s.atSample true r).withRecord (r.toClose .keptBack) := by
          rw [ready, reached]
          exact load.1 rfl
        have closes := stands.exec_closing_prepared true ready rfl
        rw [closeFrame_resync valid origin.1] at closes
        obtain ⟨slot, tried, store, latches, -⟩ := closeResyncOriginator_keptBack (r := r.toClose .keptBack)
          (s := (s.atSample true r).withRecord (r.toClose .keptBack)) own (by exact stale) valid holder good.1 good.2 rfl
        generalize closeResyncOriginator (r.toClose .keptBack) ((s.atSample true r).withRecord (r.toClose .keptBack)) = v
          at closes slot tried store latches
        refine ⟨_, closes, rfl, fun j other => (slot j).trans (if_neg other), latches, fun _ _ _ _ low => by simp at low,
          fun _ _ _ _ _ => ⟨(slot i).trans (if_pos rfl), store, tried⟩,
          fun _ _ _ bad => absurd good.2 bad, fun _ _ refused => by simp [good.1] at refused, fun none => by simp [holder] at none,
          fun none => by simp [holder] at none⟩
    · rw [if_neg good] at reached
      have ready : ready (readProt prot s) = (s.atSample prot r).withRecord (r.toClose r.load) := by
        rw [ready, reached]
        exact settle_free (busyFor_idle (by exact idle) _)
      have closes := stands.exec_closing_prepared prot ready rfl
      rw [closeFrame_resync valid origin.1] at closes
      have ownQ : ∃ request, ((s.atSample prot r).withRecord (r.toClose r.load)).own = some ⟨.upkeep .resync i, request⟩ := own
      generalize made : closeResyncOriginator (r.toClose r.load) ((s.atSample prot r).withRecord (r.toClose r.load)) = v at closes
      cases holder : r.holder with
      | some h =>
        cases choice : r.choice with
        | true =>
          have bad : r.answerCheck ≠ some true := fun fine => good ⟨choice, fine⟩
          obtain ⟨slot, tried, store, latches, -⟩ := closeResyncOriginator_bad (r := r.toClose r.load) ownQ (by exact stale) valid
            holder choice bad
          rw [made] at slot tried store latches
          exact ⟨_, closes, rfl, fun j other => (slot j).trans (if_neg other), latches, fun _ _ _ fine => absurd fine bad,
            fun _ _ _ fine => absurd fine bad, fun _ _ _ _ => ⟨(slot i).trans (if_pos rfl), store, tried⟩,
            fun _ _ refused => by simp at refused, fun none => by simp at none, fun none => by simp at none⟩
        | false =>
          obtain ⟨slot, ended, store, latches, -⟩ := closeResyncOriginator_refused (r := r.toClose r.load) ownQ (by exact stale) valid
            holder choice
          rw [made] at slot ended store latches
          exact ⟨_, closes, rfl, fun j other => (slot j).trans (if_neg other), latches, fun _ _ accepted => by simp at accepted,
            fun _ _ accepted => by simp at accepted, fun _ _ accepted => by simp at accepted,
            fun _ _ _ => ⟨(slot i).trans (if_pos rfl), store, ended⟩, fun none => by simp at none, fun none => by simp at none⟩
      | none =>
        by_cases role : r.presence = true ∨ r.fill = true
        · obtain ⟨slot, tried, store, latches, -⟩ := closeResyncOriginator_torn (r := r.toClose r.load) ownQ (by exact stale) valid
            holder role
          rw [made] at slot tried store latches
          exact ⟨_, closes, rfl, fun j other => (slot j).trans (if_neg other), latches, fun _ held => by simp at held,
            fun _ held => by simp at held, fun _ held => by simp at held, fun _ held => by simp at held,
            fun _ presence fill => by simp [presence, fill] at role, fun _ _ => ⟨(slot i).trans (if_pos rfl), store, tried⟩⟩
        · obtain ⟨presence, fill⟩ : r.presence = false ∧ r.fill = false := by simpa using role
          obtain ⟨slot, ended, store, latches, -⟩ := closeResyncOriginator_noHolder (r := r.toClose r.load) ownQ (by exact stale) valid
            holder presence fill
          rw [made] at slot ended store latches
          exact ⟨_, closes, rfl, fun j other => (slot j).trans (if_neg other), latches, fun _ held => by simp at held,
            fun _ held => by simp at held, fun _ held => by simp at held, fun _ held => by simp at held,
            fun _ _ _ => ⟨(slot i).trans (if_pos rfl), store, ended⟩, fun _ found => absurd found role⟩

end Sys2Proof.Proofs
end

section
/-! REPAIR at its originator (R128, R129), and the closing of an OFFER at both ends (R77, R78). -/

namespace Sys2Proof.Machine

/-! ### REPAIR -/

/-- The answer to a REPAIR is good: a source sent the version asked for. -/
def FrameRecord.goodRepair (r : FrameRecord) : Prop :=
  r.choice = true ∧ r.answerCheck = some true ∧ r.answerVersion = r.reqVersion

/-- A REPAIR with a good answer prepares its load. -/
theorem prepares_repair {r : FrameRecord} (point : r.point = .over) (valid : r.voidRead = false) (origin : r.part = .originator)
    (s : State) :
    (r.goodRepair → r.prepares .repair s = pageLoadBegins .primary r s) ∧ (¬ r.goodRepair → r.prepares .repair s = s) := by
  have closes : r.prepares .repair s =
      if r.choice = true ∧ r.answerCheck = some true ∧ r.answerVersion = r.reqVersion then pageLoadBegins .primary r s else s := by
    simp [FrameRecord.prepares, point, closingBegins, FrameRecord.originates, origin, valid]
  exact ⟨fun good => closes.trans (if_pos good), fun bad => closes.trans (if_neg bad)⟩

/-- The closing of a REPAIR at its originator. -/
theorem closeFrame_repair {r : FrameRecord} (valid : r.voidRead = false) (origin : r.part = .originator) (load : LoadDecision)
    (s : State) : closeFrame .repair (r.toClose load) s = closeRepairOriginator (r.toClose load) s := by
  have originates : (r.toClose load).originates = true := beq_iff_eq.mpr origin
  simp [closeFrame, closeSlot, closeOriginator, originates]

section
variable {r : FrameRecord} {s : State} {i : SlotIx}

/-- A REPAIR loaded. -/
theorem closeRepairOriginator_loaded (own : ∃ request, s.own = some ⟨.upkeep .repair i, request⟩)
    (primary : (s.slot i).state = .primary) (valid : r.voidRead = false) (kept : r.contest ≠ .lost) (good : r.goodRepair)
    (made : r.load = .requested) :
    UpkeepSettled s (closeRepairOriginator r s) i { s.slot i with damaged := false, attempts := 0 } 0 := by
  obtain ⟨choice, check, version⟩ := good
  have closes : closeRepairOriginator r s = endUpkeep (repaired i s) := by
    simp [closeRepairOriginator, valid, kept, choice, check, version, made, onUpkeepSlot_of own primary]
  rw [closes]
  exact (UpkeepFlags.start s).settled i _

/-- A REPAIR whose load PROT kept back. -/
theorem closeRepairOriginator_keptBack (own : ∃ request, s.own = some ⟨.upkeep .repair i, request⟩)
    (primary : (s.slot i).state = .primary) (valid : r.voidRead = false) (kept : r.contest ≠ .lost) (good : r.goodRepair)
    (back : r.load = .keptBack) : RecoveryTried s (closeRepairOriginator r s) i (withFlag .prot 0) := by
  obtain ⟨choice, check, version⟩ := good
  have flags := UpkeepFlags.one own .prot
  have closes : closeRepairOriginator r s = failTry .primary (addFlag .prot s) := by
    simp [closeRepairOriginator, valid, kept, choice, check, version, back]
  rw [closes, failTry_of (by rw [flags.own]; exact own) (by rw [flags.slot]; exact primary)]
  exact flags.tried i

/-- A REPAIR without a good answer. -/
theorem closeRepairOriginator_bad (own : ∃ request, s.own = some ⟨.upkeep .repair i, request⟩)
    (primary : (s.slot i).state = .primary) (valid : r.voidRead = false) (kept : r.contest ≠ .lost) (bad : ¬ r.goodRepair) :
    RecoveryTried s (closeRepairOriginator r s) i 0 := by
  have closes : closeRepairOriginator r s = failTry .primary s := by
    unfold closeRepairOriginator
    rw [if_neg (by simp [valid]), if_neg kept]
    split
    · rfl
    · next choice =>
      refine if_pos ?_
      by_contra good
      simp only [not_or, ne_eq, not_not] at good
      exact bad ⟨by simpa using choice, good⟩
  rw [closes, failTry_of own primary]
  exact (UpkeepFlags.start s).tried i

end

/-! ### OFFER -/

section
variable {r : FrameRecord} {s : State} {i : SlotIx}

/-- The closing of an OFFER that is not void, at its originator. -/
theorem closeFrame_offer_originator (valid : r.voidRead = false) (origin : r.part = .originator) (s : State) :
    closeFrame .offer r s = closeOfferOriginator r s := by
  have originates : r.originates = true := beq_iff_eq.mpr origin
  simp [closeFrame, closeSlot, closeOriginator, originates, valid, FrameRecord.participates, origin]

/-- An act on the operation's slot where it stands in the state expected, and its end. -/
theorem UpkeepFlags.acted {u : State} {f : BitVec 16} {k : Kind} {st : SlotState} (h : UpkeepFlags s u f)
    (own : ∃ request, s.own = some ⟨.upkeep k i, request⟩) (act : Slot → Slot) :
    UpkeepSettled s (endUpkeep (onUpkeepSlot st (fun i s => s.setSlot i (act (s.slot i))) u)) i
      (if (s.slot i).state = st then act (s.slot i) else s.slot i) f := by
  have own' : ∃ request, u.own = some ⟨.upkeep k i, request⟩ := by rw [h.own]; exact own
  by_cases state : (s.slot i).state = st
  · rw [onUpkeepSlot_of own' (by rw [h.slot]; exact state), if_pos state, h.slot]
    exact h.settled i _
  · obtain ⟨request, own'⟩ := own'
    have nothing : upkeepSlot st u = none := by
      simp only [upkeepSlot, own', h.slot]
      exact if_neg state
    rw [if_neg state, onUpkeepSlot, nothing]
    exact h.settled_same i

/-- An OFFER that found a mirror. -/
theorem closeOfferOriginator_won (own : ∃ request, s.own = some ⟨.upkeep .offer i, request⟩) (valid : r.voidRead = false)
    (holder : r.holder = some r.originator) (bidden : r.bidByte ≠ 0xFF) (ack : r.ack = true) :
    UpkeepSettled s (closeOfferOriginator r s) i (if (s.slot i).state = .primary then
      { s.slot i with partner := some (r.bidByte.extractLsb' 0 4), seekDue := false } else s.slot i) 0 := by
  have closes : closeOfferOriginator r s =
      endUpkeep (onUpkeepSlot .primary (fun i => gainPartner i (r.bidByte.extractLsb' 0 4)) s) := by
    unfold closeOfferOriginator
    rw [if_neg (by simp [valid]), if_neg (by simp [holder]), if_neg bidden, if_pos ack]
  rw [closes]
  exact (UpkeepFlags.start s).acted own fun d => { d with partner := some (r.bidByte.extractLsb' 0 4), seekDue := false }

/-- An OFFER that found none: no bid, or no ACK of the winner. -/
theorem closeOfferOriginator_failed (own : ∃ request, s.own = some ⟨.upkeep .offer i, request⟩) (valid : r.voidRead = false)
    (holder : r.holder = some r.originator) (fails : r.bidByte = 0xFF ∨ r.ack = false) :
    UpkeepSettled s (closeOfferOriginator r s) i (if (s.slot i).state = .primary then { s.slot i with seekDue := false } else s.slot i)
      (if r.bidByte = 0xFF then withFlag .noBidder 0 else withFlag .noAck 0) := by
  by_cases bidden : r.bidByte = 0xFF
  · have closes : closeOfferOriginator r s = offerFails (addFlag .noBidder s) := by
      simp [closeOfferOriginator, valid, holder, bidden]
    rw [closes, if_pos bidden]
    exact (UpkeepFlags.one own .noBidder).acted own fun d => { d with seekDue := false }
  · have closes : closeOfferOriginator r s = offerFails (addFlag .noAck s) := by
      unfold closeOfferOriginator
      rw [if_neg (by simp [valid]), if_neg (by simp [holder]), if_neg bidden, if_neg (by simp [fails.resolve_left bidden])]
    rw [closes, if_neg bidden]
    exact (UpkeepFlags.one own .noAck).acted own fun d => { d with seekDue := false }

/-- An OFFER that lost the holder contest, or was never held. -/
theorem closeOfferOriginator_lost (valid : r.voidRead = false) (lost : r.holder ≠ some r.originator) :
    UpkeepSettled s (closeOfferOriginator r s) i (s.slot i) 0 := by
  have closes : closeOfferOriginator r s = endUpkeep s := by
    simp [closeOfferOriginator, valid, lost]
  rw [closes]
  exact (UpkeepFlags.start s).settled_same i

/-- The closing of an OFFER at the winner of its bid. -/
theorem closeFrame_offer_winner (valid : r.voidRead = false) (part : r.part = .participant) (incoming : r.incoming = some i)
    (state : (s.slot i).state = .incoming) :
    (r.load = .requested → closeFrame .offer r s = reportRole false (becomeMirror i r.originator s)) ∧
      (r.load ≠ .requested → closeFrame .offer r s = reportRole false (freeSlot i s)) := by
  have reads : r.originates = false ∧ r.participates = true := by simp [FrameRecord.originates, FrameRecord.participates, part]
  have closes : closeFrame .offer r s = closeOfferWinner r s := by simp [closeFrame, closeSlot, valid, reads]
  rw [closes, closeOfferWinner, incoming]
  exact ⟨fun load => if_pos ⟨load, state⟩, fun load => (if_neg fun found => load found.1).trans (dropIncoming_some incoming state)⟩

end

end Sys2Proof.Machine

namespace Sys2Proof.Proofs

open Sys2Proof.Machine

/-- Settles O51: the settlement of a REPAIR by its answer and the load its closing made. -/
theorem repairSettlement : Obligations.RepairSettlement := by
  intro prot s r i stands valid fresh origin kept idle primary d good
  have point : r.point = .over := stands.2.2.1
  have reached := (stands.readProt prot).lowPhase_fresh fresh
  have own : ∃ request, (s.atSample prot r).own = some ⟨.upkeep .repair i, request⟩ := origin.2
  have load := settle_pageLoad (s := s.atSample prot r) (r := r) rfl own (by exact primary) (by exact idle)
  obtain ⟨prepares, plain⟩ := prepares_repair point valid origin.1 ((readProt prot s).withRecord r.lowered)
  by_cases fine : r.goodRepair
  · rw [prepares fine] at reached
    cases prot with
    | false =>
      have ready : ready (readProt false s) = (s.atSample false r).loaded r i := by
        rw [ready, reached]
        exact load.2 rfl
      have closes := stands.exec_closing_prepared false ready rfl
      rw [closeFrame_repair valid origin.1] at closes
      obtain ⟨slot, ended, store, latches, -⟩ := closeRepairOriginator_loaded (r := r.toClose .requested)
        (s := (s.atSample false r).loaded r i) own (by rw [loaded_slot, if_pos rfl]; exact primary) valid kept fine rfl
      generalize closeRepairOriginator (r.toClose .requested) ((s.atSample false r).loaded r i) = v at closes slot ended store latches
      simp only [loaded_slot, loaded_store, if_pos, atSample_slot] at slot store
      exact ⟨_, closes, rfl, fun j other => by rw [dropFrame_slot, slot, if_neg other, if_neg other], latches,
        fun _ _ => ⟨(slot i).trans (if_pos rfl), store, ended⟩, fun _ high => by simp at high, fun bad => absurd fine bad⟩
    | true =>
      have ready : ready (readProt true s) = (s.atSample true r).withRecord (r.toClose .keptBack) := by
        rw [ready, reached]
        exact load.1 rfl
      have closes := stands.exec_closing_prepared true ready rfl
      rw [closeFrame_repair valid origin.1] at closes
      obtain ⟨slot, tried, store, latches, -⟩ := closeRepairOriginator_keptBack (r := r.toClose .keptBack)
        (s := (s.atSample true r).withRecord (r.toClose .keptBack)) own (by exact primary) valid kept fine rfl
      generalize closeRepairOriginator (r.toClose .keptBack) ((s.atSample true r).withRecord (r.toClose .keptBack)) = v
        at closes slot tried store latches
      exact ⟨_, closes, rfl, fun j other => (slot j).trans (if_neg other), latches, fun _ low => by simp at low,
        fun _ _ => ⟨(slot i).trans (if_pos rfl), store, tried⟩, fun bad => absurd fine bad⟩
  · rw [plain fine] at reached
    have ready : ready (readProt prot s) = (s.atSample prot r).withRecord (r.toClose r.load) := by
      rw [ready, reached]
      exact settle_free (busyFor_idle (by exact idle) _)
    have closes := stands.exec_closing_prepared prot ready rfl
    rw [closeFrame_repair valid origin.1] at closes
    obtain ⟨slot, tried, store, latches, -⟩ := closeRepairOriginator_bad (r := r.toClose r.load)
      (s := (s.atSample prot r).withRecord (r.toClose r.load)) own (by exact primary) valid kept (by exact fine)
    generalize closeRepairOriginator (r.toClose r.load) ((s.atSample prot r).withRecord (r.toClose r.load)) = v
      at closes slot tried store latches
    exact ⟨_, closes, rfl, fun j other => (slot j).trans (if_neg other), latches, fun found => absurd found fine,
      fun found => absurd found fine, fun _ => ⟨(slot i).trans (if_pos rfl), store, tried⟩⟩

end Sys2Proof.Proofs
end

section
/-! The bid of an OFFER, the winner's load at its ACK bit, and the settlement of the OFFER (R75 to R78). -/

namespace Sys2Proof.Machine

/-- A row of one bit that stands alone, with what its low phase has made of the station. -/
theorem StandsAt.exec_bit_prepared {s w : State} {r q : FrameRecord} {k : Kind} {p : Point} (h : StandsAt s r k p) (prot others : Bool)
    (single : p.isByte = false) (prepared : ready (Machine.readProt (rowProt k prot s) s) = w) (found : w.frame = some q)
    (same : q.point = r.point) : exec (frameRow k prot [.bit others]) s = .next (singleBit others q w) := by
  subst prepared
  obtain ⟨inFrame, code, rfl, reads, -⟩ := h
  have alone : q.point.isByte = false := by rw [same]; exact single
  rw [exec_frameRow, frameEvents_cons, frameEvents_nil,
    frameEvent_bit (r := r) others (by exact inFrame) (fits_code code) (by simp [FrameRecord.beforeBit, reads]), bitComplete]
  simp only [found, alone]
  rfl

/-! ### The bid byte -/

/-- Whether a station may bid does not depend on the record it keeps. -/
theorem eligible_atSample (r q : FrameRecord) (s : State) : eligible r (s.withRecord q) = eligible r s := rfl

/-- An eligible station has a FREE slot. -/
theorem firstFree_of_eligible {r : FrameRecord} {s : State} (may : eligible r s = true) : ∃ i, firstFree s = some i := by
  simp only [eligible, Bool.and_eq_true] at may
  obtain ⟨⟨⟨⟨⟨⟨⟨-, -⟩, free⟩, -⟩, -⟩, -⟩, -⟩, -⟩ := may
  exact Option.isSome_iff_exists.mp free

/-- The bid, as a number. -/
theorem bidOf_eq (f : Nat) (n : StationNo) : bidOf f n = BitVec.ofNat 8 (16 * (15 - min f 15) + n.toNat) := by
  apply BitVec.eq_of_toNat_eq
  have small : 15 - min f 15 < 16 := by omega
  have number : n.toNat < 16 := n.isLt
  simp only [bidOf, BitVec.toNat_append, BitVec.toNat_ofNat]
  rw [Nat.shiftLeft_eq, ← Nat.shiftLeft_eq, ← Nat.shiftLeft_add_eq_or_of_lt number, Nat.shiftLeft_eq]
  omega

/-- The record of a bidder. -/
def FrameRecord.bidding (r : FrameRecord) (i : SlotIx) (bid : Byte) : FrameRecord := { r.lowered with setAside := some i, bid := bid }

/-- An eligible station sets its lowest FREE slot aside and prepares its bid. -/
theorem prepares_bid {r : FrameRecord} {s : State} {i : SlotIx} (point : r.point = .bid) (may : eligible r s = true)
    (free : firstFree s = some i) :
    r.prepares .offer (s.withRecord r.lowered) = s.withRecord (r.bidding i (bidOf (freeSlots s) s.number)) := by
  have free' : firstFree (s.withRecord r.lowered) = some i := free
  simp only [FrameRecord.prepares, point, bidBegins]
  rw [if_pos (by rwa [eligible_atSample]), free']
  rfl

/-- The bid byte. -/
theorem byteRead_bid {q : FrameRecord} (point : q.point = .bid) (read : Byte) (s : State) :
    byteRead read (s.withRecord q) = bidByteRead q read (s.withRecord q) := by
  simp [byteRead, point]

/-- The winner ACK bit as the winner places it. -/
theorem ownBit_winnerAck {q : FrameRecord} {i : SlotIx} (point : q.point = .winnerAck) (incoming : q.incoming = some i) (s : State) :
    ownBit q s = (q.load == .requested) := by
  simp [ownBit, point, incoming]

/-- A bid won reserves the slot set aside. -/
theorem bidByteRead_won {r : FrameRecord} {i : SlotIx} {page : PageId} (set' : r.setAside = some i) (named : r.page = some page)
    (read : Byte) (s : State) : bidByteRead r read s =
      (reportRole false (becomeIncoming i page r.originator s)).withRecord { r.fieldDone (if read = 0xFF then .over else .answer) with
        bidByte := read, incoming := some i, setAside := none } := by
  simp only [bidByteRead, winBid, set', named]
  rfl

/-! ### The winner's ACK bit -/

/-- The winner of the bid finds its load good. -/
def FrameRecord.goodLoad (r : FrameRecord) (prot : Bool) : Prop :=
  r.answerCheck = some true ∧ r.answerVersion = r.reqVersion ∧ prot = false

/-- What it does in the low phase before its bit, with the store idle. -/
theorem ready_winnerAck {s : State} {r : FrameRecord} {i : SlotIx} (stands : StandsAt s r .offer .winnerAck) (fresh : r.low = false)
    (incoming : r.incoming = some i) (state : (s.slot i).state = .incoming) (idle : StoreIdle s) :
    (r.goodLoad s.prot → ready s = s.loaded r i) ∧ (¬ r.goodLoad s.prot → ready s = s.withRecord r.lowered) := by
  have point : r.point = .winnerAck := stands.2.2.1
  have prepares : ∀ u, r.prepares .offer u = winnerAckBegins r u := fun u => by simp [FrameRecord.prepares, point]
  rw [ready, stands.lowPhase_fresh fresh, prepares, winnerAckBegins, incoming]
  dsimp only
  refine ⟨fun good => ?_, fun bad => ?_⟩
  · obtain ⟨check, version, low⟩ := good
    rw [if_pos ⟨check, version, low, state⟩, settle_requestForFrame (by exact idle)]
    rfl
  · rw [if_neg fun found => bad ⟨found.1, found.2.1, found.2.2.1⟩]
    exact settle_free (busyFor_idle (by exact idle) _)

end Sys2Proof.Machine

namespace Sys2Proof.Proofs

open Sys2Proof.Machine

/-- Settles O54: the bid of an eligible station, the winner's load and ACK, and the OFFER's closing at both ends. -/
theorem offerBidAndOutcome : Obligations.OfferBidAndOutcome := by
  refine ⟨fun prot s r page stands fresh named unset may free => ?_, fun prot others s r i stands fresh incoming load state idle => ?_,
    fun prot s r i stands valid origin free => ?_, fun prot s r i stands valid part incoming free state => ?_⟩
  · obtain ⟨i, found⟩ := firstFree_of_eligible may
    have point : r.point = .bid := stands.2.2.1
    have found' : firstFree (readProt prot s) = some i := found
    have prepared : ready (readProt prot s) =
        (readProt prot s).withRecord (r.bidding i (bidOf (freeSlots s) s.number)) := by
      rw [ready, (stands.readProt _).lowPhase_fresh fresh, prepares_bid point (by exact may) found']
      exact settle_free free
    have runs := stands.exec_byte_prepared prot 0xFF (by decide) (by decide) prepared rfl rfl ⟨rfl, rfl, stands.2.2.2.2.1⟩ free
      (Or.inl (by decide)) (losesNothing_alone _ _)
    have places : ∀ u, ownByte (r.bidding i (bidOf (freeSlots s) s.number)) u = bidOf (freeSlots s) s.number := fun u => by
      have at' : (r.bidding i (bidOf (freeSlots s) s.number)).point = .bid := point
      simp only [ownByte, at']
      exact if_pos rfl
    rw [places, show ∀ b : Byte, b &&& 0xFF = b from fun _ => BitVec.and_allOnes] at runs
    generalize made : r.bidding i (bidOf (freeSlots s) s.number) = q at runs
    have set' : q.setAside = some i := by rw [← made]; rfl
    have named' : q.page = some page := by rw [← made]; exact named
    have origin : q.originator = r.originator := by rw [← made]; rfl
    have at' : q.point = .bid := by rw [← made]; exact point
    rw [byteRead_bid (q := q.withByte _ _) at', bidByteRead_won (r := q.withByte _ _) set' named', withRecord_withRecord,
      show ∀ b, (q.withByte b 0xFF).originator = r.originator from fun _ => origin] at runs
    refine ⟨i, _, _, found, runs, rfl, bidOf_eq _ _, rfl, slot_setSlot_same _ i _, fun j other => slot_setSlot_ne _ _ other, rfl, rfl⟩
  · intro good
    have point : r.point = .winnerAck := stands.2.2.1
    have low : (readProt prot s).prot = prot := rfl
    obtain ⟨loads, keeps⟩ := ready_winnerAck (stands.readProt prot) fresh incoming (by exact state) (by exact idle)
    rw [low] at loads keeps
    by_cases fine : r.goodLoad prot
    · have runs := stands.exec_bit_prepared (q := r.toClose .requested) prot others (by decide) (loads fine) rfl rfl
      rw [singleBit_winnerAck (by exact point)] at runs
      have drives : ∀ u, ownBit (r.toClose .requested) u = true := ownBit_winnerAck (q := r.toClose .requested) point incoming
      rw [drives] at runs
      obtain ⟨check, version, low⟩ := fine
      have slots := loaded_slot (readProt prot s) r i
      have store := loaded_store (readProt prot s) r i
      generalize (readProt prot s).loaded r i = v at runs slots store
      exact ⟨_, _, runs, rfl, rfl, fun j other => (slots j).trans (if_neg other),
        fun _ => ⟨rfl, rfl, store, (slots i).trans (if_pos rfl)⟩, fun bad => absurd ⟨check, version, low⟩ bad⟩
    · have runs := stands.exec_bit_prepared (q := r.lowered) prot others (by decide) (keeps fine) rfl rfl
      rw [singleBit_winnerAck (by exact point)] at runs
      have drives : ∀ u, ownBit r.lowered u = false := fun u => by
        rw [ownBit_winnerAck (q := r.lowered) point incoming, show r.lowered.load = .none from load]
        rfl
      rw [drives, Bool.false_or] at runs
      exact ⟨_, _, runs, rfl, rfl, fun _ _ => rfl, fun found => absurd found fine, fun _ => ⟨rfl, load, rfl, rfl⟩⟩
  · have closes := stands.exec_closing prot free (prepares_over_kind stands.2.2.1 (by decide))
    rw [closeFrame_offer_originator valid origin.1] at closes
    generalize rowProt .offer prot s = p at closes
    have own : ∃ request, (s.atSample p r).own = some ⟨.upkeep .offer i, request⟩ := origin.2
    refine ⟨_, closes, ?_⟩
    simp only [dropFrame_slot, dropFrame_store, dropFrame_latches]
    generalize made : closeOfferOriginator r (s.atSample p r) = v
    by_cases held : r.holder = some r.originator
    · by_cases won : r.bidByte ≠ 0xFF ∧ r.ack = true
      · obtain ⟨slot, ended, store, latches, -⟩ := closeOfferOriginator_won own valid held won.1 won.2
        rw [made] at slot ended store latches
        refine ⟨store, rfl, latches, fun j other => (slot j).trans (if_neg other),
          fun _ _ _ => ⟨ended, fun primary => (slot i).trans ((if_pos rfl).trans (if_pos primary))⟩, fun _ fails => ?_,
          fun lost => absurd held lost⟩
        rcases fails with bare | silent
        · exact absurd bare won.1
        · simp [won.2] at silent
      · have fails : r.bidByte = 0xFF ∨ r.ack = false := by
          by_contra both
          simp only [not_or, Bool.not_eq_false] at both
          exact won both
        obtain ⟨slot, ended, store, latches, -⟩ := closeOfferOriginator_failed own valid held fails
        rw [made] at slot ended store latches
        exact ⟨store, rfl, latches, fun j other => (slot j).trans (if_neg other), fun _ bidden ack => absurd ⟨bidden, ack⟩ won,
          fun _ _ => ⟨ended, fun primary => (slot i).trans ((if_pos rfl).trans (if_pos primary))⟩, fun lost => absurd held lost⟩
    · obtain ⟨slot, ended, store, latches, -⟩ := closeOfferOriginator_lost (s := s.atSample p r) (i := i) valid held
      rw [made] at slot ended store latches
      exact ⟨store, rfl, latches, fun j other => (slot j).trans (if_neg other), fun here => absurd here held,
        fun here => absurd here held, fun _ => ⟨ended, (slot i).trans (if_pos rfl)⟩⟩
  · have closes := stands.exec_closing prot free (prepares_over_participant stands.2.2.1 part)
    generalize rowProt .offer prot s = p at closes
    obtain ⟨mirror, drops⟩ := closeFrame_offer_winner (s := s.atSample p r) valid part incoming (by exact state)
    refine ⟨_, closes, ?_⟩
    simp only [dropFrame_slot, dropFrame_store, dropFrame_latches]
    by_cases load : r.load = .requested
    · rw [mirror load]
      exact ⟨rfl, rfl, fun j other => slot_setSlot_ne _ _ other, rfl, fun _ => slot_setSlot_same _ i _, fun other => absurd load other⟩
    · have slots := fun j => freeSlot_slot i j (s.atSample p r)
      have store := freeSlot_keeps (·.store) (fun _ _ _ => rfl) endUpkeep_store i (s.atSample p r)
      have latches := freeSlot_keeps (·.latches) (fun _ _ _ => rfl) endUpkeep_latches i (s.atSample p r)
      rw [drops load]
      generalize freeSlot i (s.atSample p r) = v at slots store latches
      exact ⟨store, rfl, fun j other => (slots j).trans (if_neg other), congrArg (· ||| Latch.role.mask) latches,
        fun made => absurd made load, fun _ => (slots i).trans (if_pos rfl)⟩

end Sys2Proof.Proofs
end

section
/-! The closing of a CLAIM at its originator (R63 to R65). -/

namespace Sys2Proof.Machine

/-! ### What completes an entry -/

/-- A granted CLAIM keeps its slot. -/
theorem headEnds_granted_slots {e : Entry} {page : PageId} {m : ClaimMode} {slot : Option SlotIx} (body : e.body = .claim page m slot)
    (rest : List Entry) (s : State) : (headEnds e rest .granted none none [] s).slots = s.slots := by
  have ends : headEnds e rest .granted none none [] s = fillResult e .granted none none [] (endEntry e { s with queue := rest }) := by
    simp [headEnds, body]
  rw [ends]
  exact (endEntry_slots e { s with queue := rest }).trans rfl

/-- A CLAIM of mode and page has left the queue into the result record, its operation ended with flags added. -/
def ClaimCompleted (s t : State) (e : Entry) (rest : List Entry) (m : ClaimMode) (code : Code) (page : PageId)
    (h : Option StationNo) (added : BitVec 16) : Prop :=
  t.queue = rest ∧ t.faults = s.faults ∧ t.latches = s.latches ||| (1#6 <<< 0) ∧ EntryEnded s t e added ∧
    t.result = some ⟨e.tag, .claim, some m, code, page, h, none, []⟩

/-- An entry completed is a CLAIM completed where it is one. -/
theorem claimCompleted_of {s x t : State} {e : Entry} {rest : List Entry} {m : ClaimMode} {code : Code} {page : PageId}
    {slot : Option SlotIx} {h : Option StationNo} {added : BitVec 16} (body : e.body = .claim page m slot)
    (same : LatchedOnly s x 0) (filled : ResultFilled x t e rest code h none [] 0) (ended : EntryEnded x t e added) :
    ClaimCompleted s t e rest m code page h added := by
  obtain ⟨queue, faults, latches, result⟩ := filled
  refine ⟨queue, faults.trans same.faults, ?_, same.ended ended, ?_⟩
  · rw [latches, same.latches]
    simp
  · rw [result]
    simp [body, EntryBody.kind, EntryBody.mode, EntryBody.page]

/-! ### The zero fill of a closing -/

/-- The station once the zero fill of a closing has been made. -/
def State.zeroed (s : State) (r : FrameRecord) (i : SlotIx) : State := applyAccess i .zeroFill (s.withRecord (r.toClose .requested))

@[simp] theorem zeroed_slot (s : State) (r : FrameRecord) (i j : SlotIx) : (s.zeroed r i).slot j =
    if j = i then { s.slot i with version := 0, check := pageCheck 0 zeroPage } else s.slot j := by
  unfold State.zeroed applyAccess
  generalize zeroPage = words
  exact slot_setSlot _ _ _ _
@[simp] theorem zeroed_store (s : State) (r : FrameRecord) (i : SlotIx) :
    (s.zeroed r i).store = s.store.writeWords i 0 zeroPage := by
  unfold State.zeroed applyAccess
  generalize zeroPage = words
  rfl

/-- The CLAIMING slot of the entry in flight. -/
theorem claimingSlot_of {s : State} {e : Entry} {rest : List Entry} {page : PageId} {i : SlotIx} (head : HeadInFlight s e rest)
    (body : e.body = .claim page .new (some i)) (claiming : (s.slot i).state = .claiming) : claimingSlot s = some i := by
  obtain ⟨whole, queue, -⟩ := head
  simp [claimingSlot, currentEntry, whole, queue, EntryBody.claimSlot, body, claiming]

/-- With the store idle a zero fill is made before the closing where PROT is low, and kept back where it is high. -/
theorem settle_zeroFill {s : State} {r : FrameRecord} {i : SlotIx} (inFrame : s.frame = some r.lowered)
    (claims : claimingSlot s = some i) (idle : StoreIdle s) :
    (s.prot = true → settle (zeroFillBegins s) = s.withRecord (r.toClose .keptBack)) ∧
      (s.prot = false → settle (zeroFillBegins s) = s.zeroed r i) := by
  have marked : ∀ load, modifyFrame (fun r => { r with load := load }) s = s.withRecord (r.toClose load) := fun load => by
    simp [modifyFrame, State.withRecord, inFrame, FrameRecord.toClose]
  unfold zeroFillBegins
  rw [claims]
  dsimp only
  refine ⟨fun high => ?_, fun low => ?_⟩
  · rw [if_pos high, marked]
    exact settle_free (busyFor_idle (by exact idle) _)
  · rw [if_neg (by simp [low]), marked, settle_requestForFrame (by exact idle)]
    rfl

/-- A granted CLAIM NEW prepares its fill, any other CLAIM nothing. -/
theorem prepares_claim {r : FrameRecord} (point : r.point = .over) (valid : r.voidRead = false) (origin : r.part = .originator)
    (s : State) :
    (r.granted = true ∧ r.modeNew = true → r.prepares .claim s = zeroFillBegins s) ∧
      (¬ (r.granted = true ∧ r.modeNew = true) → r.prepares .claim s = s) := by
  have closes : r.prepares .claim s = if r.granted = true ∧ r.modeNew = true then zeroFillBegins s else s := by
    simp [FrameRecord.prepares, point, closingBegins, FrameRecord.originates, origin, valid]
  exact ⟨fun new => closes.trans (if_pos new), fun other => closes.trans (if_neg other)⟩

/-- The load a closing has come to. -/
theorem toClose_load (r : FrameRecord) (load : LoadDecision) : (r.toClose load).load = load := rfl

/-- The closing of a CLAIM at its originator. -/
theorem closeFrame_claim {r : FrameRecord} (origin : r.part = .originator) (valid : r.voidRead = false) (s : State) :
    closeFrame .claim r s =
      if r.granted = false then completeEntry .held r.holder none [] s
      else if r.modeNew = false then grantAdopt r s
      else if r.load = .requested then grantNew s
      else completeEntry .prot none none [] (addFlag .prot s) := by
  have originates : r.originates = true := beq_iff_eq.mpr origin
  simp [closeFrame, closeSlot, closeOriginator, closeClaimOriginator, originates, valid]

/-! ### The three judgements -/

section
variable {s : State} {r : FrameRecord} {e : Entry} {rest : List Entry} {page : PageId} {i : SlotIx}

/-- A CLAIM NEW granted: its slot becomes PRIMARY. -/
theorem grantNew_settled (head : HeadInFlight s e rest) (own : ∃ request, s.own = some ⟨.entry, request⟩)
    (body : e.body = .claim page .new (some i)) (claiming : (s.slot i).state = .claiming) :
    ClaimCompleted s (grantNew s) e rest .new .granted page none 0 ∧
      ∀ j, (grantNew s).slot j = if j = i then (s.slot i).primaryWith s.straps.ms none false else s.slot j := by
  have other : e.isWrite = false := by simp [Entry.isWrite, body, EntryBody.kind]
  have grants : grantNew s = completeEntry .granted none none [] (becomePrimary i none false s) := by
    rw [grantNew, claimingSlot_of head body claiming]
  have head' : HeadInFlight (becomePrimary i none false s) e rest := head
  obtain ⟨filled, ended, -⟩ := (FlagsAdded.start (by exact own) head').completed other .granted none none []
  rw [grants]
  refine ⟨claimCompleted_of body ⟨rfl, rfl, rfl, rfl, rfl, by simp⟩ filled ended, fun j => ?_⟩
  rw [slot_congr ((congrArg State.slots (completeEntry_head head' _ _ _ _)).trans (headEnds_granted_slots body rest _)) j]
  exact slot_setSlot _ _ _ _

/-- A CLAIM ADOPT granted: its STALE slot becomes PRIMARY. -/
theorem grantAdopt_settled {slot : Option SlotIx} (head : HeadInFlight s e rest) (own : ∃ request, s.own = some ⟨.entry, request⟩)
    (body : e.body = .claim page .adopt slot) (at' : r.slot = some i) (stale : (s.slot i).state = .stale) :
    ClaimCompleted s (grantAdopt r s) e rest .adopt .granted page none 0 ∧
      ∀ j, (grantAdopt r s).slot j = if j = i then (s.slot i).primaryWith s.straps.ms none false else s.slot j := by
  have other : e.isWrite = false := by simp [Entry.isWrite, body, EntryBody.kind]
  have grants : grantAdopt r s = completeEntry .granted none none [] (becomePrimary i none false s) := by
    simp [grantAdopt, onSlotOfRecord, at', stale]
  have head' : HeadInFlight (becomePrimary i none false s) e rest := head
  obtain ⟨filled, ended, -⟩ := (FlagsAdded.start (by exact own) head').completed other .granted none none []
  rw [grants]
  refine ⟨claimCompleted_of body ⟨rfl, rfl, rfl, rfl, rfl, by simp⟩ filled ended, fun j => ?_⟩
  rw [slot_congr ((congrArg State.slots (completeEntry_head head' _ _ _ _)).trans (headEnds_granted_slots body rest _)) j]
  exact slot_setSlot _ _ _ _

/-- A CLAIM whose page is held elsewhere. -/
theorem claimHeld_settled {m : ClaimMode} {slot : Option SlotIx} (head : HeadInFlight s e rest)
    (own : ∃ request, s.own = some ⟨.entry, request⟩) (body : e.body = .claim page m slot) (holder : Option StationNo) :
    ClaimCompleted s (completeEntry .held holder none [] s) e rest m .held page holder 0 ∧
      ClaimSlotFreed s (completeEntry .held holder none [] s) e := by
  have other : e.isWrite = false := by simp [Entry.isWrite, body, EntryBody.kind]
  obtain ⟨filled, ended, freed⟩ := (FlagsAdded.start own head).completed other .held holder none []
  exact ⟨claimCompleted_of body ⟨rfl, rfl, rfl, rfl, rfl, by simp⟩ filled ended, freed (by decide)⟩

/-- A CLAIM NEW granted whose fill PROT kept back. -/
theorem claimKeptBack_settled (head : HeadInFlight s e rest) (own : ∃ request, s.own = some ⟨.entry, request⟩)
    (body : e.body = .claim page .new (some i)) :
    ClaimCompleted s (completeEntry .prot none none [] (addFlag .prot s)) e rest .new .prot page none (withFlag .prot 0) ∧
      ClaimSlotFreed s (completeEntry .prot none none [] (addFlag .prot s)) e := by
  have other : e.isWrite = false := by simp [Entry.isWrite, body, EntryBody.kind]
  obtain ⟨filled, ended, freed⟩ := (FlagsAdded.one own head .prot).completed other .prot none none []
  exact ⟨claimCompleted_of body ⟨rfl, rfl, rfl, rfl, rfl, by simp⟩ filled ended, freed (by decide)⟩

/-- The CLAIMING slot of a CLAIM NEW freed, slot by slot. -/
theorem claimSlotFreed_new {t : State} (freed : ClaimSlotFreed s t e) (body : e.body = .claim page .new (some i))
    (claiming : (s.slot i).state = .claiming) (j : SlotIx) : t.slot j = if j = i then Slot.freed else s.slot j := by
  obtain ⟨mine, others⟩ := freed
  split
  · next here =>
    rw [here]
    exact mine i page body claiming
  · next there =>
    refine others j (Or.inl fun page' same => there ?_)
    rw [body] at same
    injection same with _ _ slots
    exact (Option.some.inj slots).symm

end

/-- The judgement of a CLAIM, of which each bit reads undriven. -/
theorem granted_iff {r : FrameRecord} : r.granted = true ↔ r.presence = false ∧ r.fill = false ∧ r.holderByte = 0xFF := by
  simp [FrameRecord.granted, and_assoc]

/-- What the obligation of O52 takes from a completion at the station with its pin read and its load decided. -/
theorem claimCompleted_from {s w t : State} {e : Entry} {rest : List Entry} {m : ClaimMode} {code : Code} {page : PageId}
    {h : Option StationNo} {added : BitVec 16} (same : LatchedOnly s w 0) (completed : ClaimCompleted w t e rest m code page h added) :
    ClaimCompleted s t e rest m code page h added := by
  obtain ⟨queue, faults, latches, ended, result⟩ := completed
  refine ⟨queue, faults.trans same.faults, ?_, same.ended ended, result⟩
  rw [latches, same.latches]
  simp

end Sys2Proof.Machine

namespace Sys2Proof.Proofs

open Sys2Proof.Machine

/-- Settles O52: the judgement of a CLAIM at its closing, by the role bits, the mode and the fill its closing made. -/
theorem claimJudgement : Obligations.ClaimJudgement := by
  intro prot s r e rest stands valid fresh origin head idle granted completed
  have point : r.point = .over := stands.2.2.1
  have reached := (stands.readProt prot).lowPhase_fresh fresh
  obtain ⟨new, other⟩ := prepares_claim point valid origin.1 ((readProt prot s).withRecord r.lowered)
  have plain : ¬ (r.granted = true ∧ r.modeNew = true) →
      exec (.claimFrame prot [.closing]) s = .next (dropFrame r (closeFrame .claim r (s.atSample prot r))) := fun bad => by
    rw [other bad] at reached
    have ready : ready (readProt prot s) = (s.atSample prot r).withRecord (r.toClose r.load) := by
      rw [ready, reached]
      exact settle_free (busyFor_idle (by exact idle) _)
    exact stands.exec_closing_prepared prot ready rfl
  refine ⟨fun page i body claiming mode good => ?_, fun page slot i body at' stale mode good => ?_, fun page m slot body bad => ?_⟩
  · have grants : r.granted = true := granted_iff.mpr good
    have isNew : r.modeNew = true := by simp [FrameRecord.modeNew, mode]
    rw [new ⟨grants, isNew⟩] at reached
    refine ⟨fun low => ?_, fun high => ?_⟩
    · subst low
      have claims : claimingSlot (s.atSample false r) = some i := claimingSlot_of (by exact head) body (by exact claiming)
      have ready : ready (readProt false s) = (s.atSample false r).zeroed r i := by
        rw [ready, reached]
        exact (settle_zeroFill (s := s.atSample false r) rfl claims (by exact idle)).2 rfl
      have closes := stands.exec_closing_prepared (load := .requested) false ready rfl
      rw [closeFrame_claim (r := r.toClose .requested) origin.1 valid, if_neg (by exact Bool.not_eq_false _ ▸ grants),
        if_neg (by exact Bool.not_eq_false _ ▸ isNew), if_pos (toClose_load r .requested)] at closes
      have zero : List.replicate 128 (0 : Word) = zeroPage := rfl
      rw [zero]
      obtain ⟨done, slots⟩ := grantNew_settled (s := (s.atSample false r).zeroed r i) (by exact head) origin.2 body
        (by rw [zeroed_slot, if_pos rfl]; exact claiming)
      have store := (grantNew_effects ((s.atSample false r).zeroed r i)).undisturbed.store
      have same : LatchedOnly s ((s.atSample false r).zeroed r i) 0 := by
        have latches : ((s.atSample false r).zeroed r i).latches = s.latches := rfl
        exact ⟨rfl, rfl, rfl, rfl, rfl, by rw [latches]; simp⟩
      replace done := claimCompleted_from same done
      simp only [zeroed_slot, if_pos, atSample_slot] at slots
      rw [zeroed_store] at store
      generalize grantNew ((s.atSample false r).zeroed r i) = v at closes done slots store
      generalize zeroPage = words at slots store
      exact ⟨_, closes, (slots i).trans (if_pos rfl), store, fun j there => (slots j).trans ((if_neg there).trans (if_neg there)), done, rfl⟩
    · subst high
      have claims : claimingSlot (s.atSample true r) = some i := claimingSlot_of (by exact head) body (by exact claiming)
      have ready : ready (readProt true s) = (s.atSample true r).withRecord (r.toClose .keptBack) := by
        rw [ready, reached]
        exact (settle_zeroFill (s := s.atSample true r) rfl claims (by exact idle)).1 rfl
      have closes := stands.exec_closing_prepared (load := .keptBack) true ready rfl
      rw [closeFrame_claim (r := r.toClose .keptBack) origin.1 valid, if_neg (by exact Bool.not_eq_false _ ▸ grants),
        if_neg (by exact Bool.not_eq_false _ ▸ isNew), if_neg (by rw [toClose_load]; decide)] at closes
      obtain ⟨done, freed⟩ := claimKeptBack_settled (s := (s.atSample true r).withRecord (r.toClose .keptBack)) (by exact head)
        origin.2 body
      have slots := claimSlotFreed_new freed body (by exact claiming)
      have store : (completeEntry .prot none none [] (addFlag .prot ((s.atSample true r).withRecord (r.toClose .keptBack)))).store =
          s.store := (completeEntry_effects .prot none none [] _).undisturbed.store.trans (addFlag_store _ _)
      generalize completeEntry .prot none none [] (addFlag .prot ((s.atSample true r).withRecord (r.toClose .keptBack))) = v
        at closes done slots store
      exact ⟨_, closes, (slots i).trans (if_pos rfl), store, fun j there => (slots j).trans (if_neg there), done⟩
  · have notNew : r.modeNew = false := by simp [FrameRecord.modeNew, mode]
    have closes := plain (by simp [notNew])
    rw [closeFrame_claim origin.1 valid, if_neg (by simp [granted_iff.mpr good]), if_pos notNew] at closes
    obtain ⟨done, slots⟩ := grantAdopt_settled (s := s.atSample prot r) (by exact head) origin.2 body at' (by exact stale)
    have store := (grantAdopt_effects r (s.atSample prot r)).undisturbed.store
    generalize grantAdopt r (s.atSample prot r) = v at closes done slots store
    exact ⟨_, closes, (slots i).trans (if_pos rfl), store, fun j there => (slots j).trans (if_neg there), done⟩
  · have denied : r.granted = false := Bool.eq_false_iff.mpr fun grants => bad (granted_iff.mp grants)
    have closes := plain (by simp [denied])
    rw [closeFrame_claim origin.1 valid, if_pos denied] at closes
    obtain ⟨done, freed⟩ := claimHeld_settled (s := s.atSample prot r) (by exact head) origin.2 body r.holder
    have store := (completeEntry_effects .held r.holder none [] (s.atSample prot r)).undisturbed.store
    generalize completeEntry .held r.holder none [] (s.atSample prot r) = v at closes done freed store
    refine ⟨_, closes, store, done, fun i new' slot' claiming => ?_, fun j unclaimed => freed.2 j (Or.inr unclaimed)⟩
    exact freed.1 i page (by rw [body, new', slot']) claiming

end Sys2Proof.Proofs
end

section
/-! The closing of a RELEASE at its originator and at the other stations (R68 to R70). -/

namespace Sys2Proof.Machine

/-- The head in flight stays, no attempt counted. -/
theorem keepEntry_head {s : State} {e : Entry} {rest : List Entry} (head : HeadInFlight s e rest) :
    keepEntry s = { s with queue := { e with inFlight := false } :: rest } := by
  obtain ⟨whole, queue, -⟩ := head
  simp [keepEntry, modifyCurrent, whole, queue]

/-- A slot given up is freed. -/
theorem giveUpPage_eq {i : SlotIx} {s : State} (held : (s.slot i).state = .primary ∨ (s.slot i).state = .mirror ∨ (s.slot i).state = .stale) :
    giveUpPage i s = freeSlot i s := if_pos held

/-- The closing of a RELEASE at its originator, in either mode. -/
theorem closeFrame_release_originator {r : FrameRecord} {i : SlotIx} (valid : r.voidRead = false) (origin : r.part = .originator)
    (slot : r.slot = some i) (s : State) :
    (r.modeRelease = true → r.holder = some r.originator →
        closeFrame .release r s = completeEntry .released none none [] (giveUpPage i s)) ∧
      (r.modeRelease = true → r.holder ≠ some r.originator → closeFrame .release r s = keepEntry s) ∧
      (r.modeRelease = false → closeFrame .release r s =
        completeEntry .left none none [] (giveUpPage i (addFlagIf r.holder.isNone .noHolder s))) := by
  have originates : r.originates = true := beq_iff_eq.mpr origin
  have closes : closeFrame .release r s = closeReleaseOriginator r s := by
    simp [closeFrame, closeSlot, closeOriginator, originates, valid, FrameRecord.participates, origin]
  rw [closes]
  refine ⟨fun mode held => ?_, fun mode lost => ?_, fun mode => ?_⟩
  · simp [closeReleaseOriginator, valid, mode, held, onSlotOfRecord, slot]
  · simp [closeReleaseOriginator, valid, mode, lost]
  · simp [closeReleaseOriginator, valid, mode, onSlotOfRecord, slot]

/-- A flag does not begin an upkeep operation. -/
theorem addFlagIf_idle {s : State} (b : Bool) (f : Flag) (idle : s.upkeep = none) : (addFlagIf b f s).upkeep = none := by
  cases b with
  | false => exact idle
  | true =>
    show (addFlag f s).upkeep = none
    unfold addFlag
    split
    · exact idle
    · split <;> simp [idle]

/-- A RELEASE that completes with its slot freed. -/
structure ReleaseCompleted (s t : State) (e : Entry) (rest : List Entry) (i : SlotIx) (code : Code) (page : PageId) (f : BitVec 16) :
    Prop where
  slot    : ∀ j, t.slot j = if j = i then Slot.freed else s.slot j
  queue   : t.queue = rest
  result  : t.result = some ⟨e.tag, .release, none, code, page, none, none, []⟩
  latches : t.latches = s.latches ||| (1#6 <<< 0)
  ended   : s.upkeep = none → EntryEnded s t e f

/-- The slot freed, the entry completes. -/
theorem completeEntry_released {s w : State} {e : Entry} {rest : List Entry} {f : BitVec 16} {page : PageId} (h : FlagsAdded s w e rest f)
    (idle : s.upkeep = none → w.upkeep = none) (body : e.body = .release page) (i : SlotIx) {code : Code} (denied : code ≠ .granted) :
    ReleaseCompleted s (completeEntry code none none [] (freeSlot i w)) e rest i code page f := by
  have other : (e.flagged f).isWrite = false := by simp [Entry.isWrite, Entry.flagged, body, EntryBody.kind]
  have head : HeadInFlight (freeSlot i w) (e.flagged f) rest :=
    ⟨(freeSlot_keeps (·.abandoned) (fun _ _ _ => rfl) endUpkeep_abandoned i w).trans h.head.1,
      (freeSlot_keeps (·.queue) (fun _ _ _ => rfl) endUpkeep_queue i w).trans h.head.2.1, h.head.2.2⟩
  have own : ∃ request, (freeSlot i w).own = some ⟨.entry, request⟩ := by
    rw [freeSlot_keeps (·.own) (fun _ _ _ => rfl) endUpkeep_own i w]
    exact h.own
  have latches := (freeSlot_keeps (·.latches) (fun _ _ _ => rfl) endUpkeep_latches i w).trans h.latches
  obtain ⟨⟨queue, -, latched, result⟩, ended, freed⟩ := (FlagsAdded.start own head).completed other code none none []
  refine ⟨fun j => ?_, queue, ?_, ?_, fun none => ?_⟩
  · rw [(freed denied).2 j (Or.inl fun p same => by simp [Entry.flagged, body] at same), freeSlot_slot, slot_congr h.slots]
  · rw [result]
    simp [Entry.flagged, body, EntryBody.kind, EntryBody.mode, EntryBody.page]
  · rw [latched, latches]
    simp
  · have plain : freeSlot i w = w.setSlot i Slot.freed := by simp [freeSlot, idle none]
    refine h.ended ?_
    rw [plain] at ended ⊢
    exact ended

/-- The other side of a RELEASE's closing, at a station that drove the drop bit. -/
theorem closeFrame_release_other {r : FrameRecord} {i : SlotIx} {s : State} (valid : r.voidRead = false) (part : r.part = .participant)
    (slot : r.slot = some i) (driven : r.choiceDriven = true) :
    (r.modeRelease = true → (s.slot i).state = .mirror ∨ (s.slot i).state = .stale →
        closeFrame .release r s = reportRole false (freeSlot i s)) ∧
      (r.modeRelease = false → (s.slot i).state = .primary →
        closeFrame .release r s = reportRole true (clearPartner i s)) := by
  have reads : r.originates = false ∧ r.participates = true := by simp [FrameRecord.originates, FrameRecord.participates, part]
  have closes : closeFrame .release r s = closeReleaseOther r i s := by
    simp [closeFrame, closeSlot, valid, reads, onSlotOfRecord, slot]
  rw [closes]
  refine ⟨fun mode state => ?_, fun mode state => ?_⟩
  · unfold closeReleaseOther
    dsimp only
    rw [if_neg (by simp [driven]), if_pos mode, if_pos state]
  · unfold closeReleaseOther
    dsimp only
    rw [if_neg (by simp [driven]), if_neg (by simp [mode]), if_pos state]

/-- Freeing a slot leaves an upkeep operation on another slot as it is. -/
theorem freeSlot_otherUpkeep {i : SlotIx} {s : State} (elsewhere : (s.upkeep.any fun op => op.slot == i) = false) :
    freeSlot i s = s.setSlot i Slot.freed := by
  have same : (s.setSlot i Slot.freed).upkeep = s.upkeep := rfl
  unfold freeSlot
  dsimp only
  rw [same]
  cases known : s.upkeep with
  | none => rfl
  | some op =>
    have there : ¬ op.slot = i := by simpa [known] using elsewhere
    exact if_neg fun found => there found.1

/-- Freeing the slot of a RESYNC operation ends it. -/
theorem freeSlot_resync {i : SlotIx} {s : State} {flags : BitVec 16} (op : s.upkeep = some ⟨.resync, i, flags⟩) :
    UpkeepEnded s (freeSlot i s) 0 := by
  have ends : freeSlot i s = endUpkeep (s.setSlot i Slot.freed) := by
    have same : (s.setSlot i Slot.freed).upkeep = some ⟨.resync, i, flags⟩ := op
    unfold freeSlot
    dsimp only
    rw [same]
    exact if_pos ⟨rfl, by simp⟩
  rw [ends]
  exact endUpkeep_ended (s.setSlot i Slot.freed)

end Sys2Proof.Machine

namespace Sys2Proof.Proofs

open Sys2Proof.Machine

/-- Settles O53: a RELEASE at its originator in either mode, and at the stations that drove the drop bit. -/
theorem releaseSettlement : Obligations.ReleaseSettlement := by
  refine ⟨fun s r e rest page i stands valid origin head body slot free => ?_,
    fun s r i stands valid part slot driven free => ?_⟩
  · have closes := stands.exec_closing false free (prepares_over_kind stands.2.2.1 (by decide))
    generalize rowProt .release false s = p at closes
    obtain ⟨released, keeps, left⟩ := closeFrame_release_originator (r := r) valid origin.1 slot (s.atSample p r)
    have start := FlagsAdded.start (s := s.atSample p r) origin.2 head
    have store := (closeFrame_effects .release r (s.atSample p r)).undisturbed.store
    refine ⟨fun mode held primary => ?_, fun mode state => ?_, fun mode lost => ?_⟩
    · have isRelease : r.modeRelease = true := by simp [FrameRecord.modeRelease, mode]
      rw [released isRelease held, giveUpPage_eq (Or.inl (by exact primary))] at closes store
      obtain ⟨slots, queue, result, latches, ended⟩ := completeEntry_released start id body i (code := .released) (by decide)
      generalize completeEntry .released none none [] (freeSlot i (s.atSample p r)) = v at closes store slots queue result latches ended
      exact ⟨_, closes, (slots i).trans (if_pos rfl), fun j there => (slots j).trans (if_neg there), store, queue, result, latches, ended⟩
    · have isLeave : r.modeRelease = false := by simp [FrameRecord.modeRelease, mode]
      have flags : FlagsAdded (s.atSample p r) (addFlagIf r.holder.isNone .noHolder (s.atSample p r)) e rest
          (flagIf r.holder.isNone .noHolder) := by simpa using start.addIf r.holder.isNone .noHolder
      rw [left isLeave, giveUpPage_eq (Or.inr (by simpa using state))] at closes store
      obtain ⟨slots, queue, result, latches, ended⟩ :=
        completeEntry_released flags (addFlagIf_idle _ _) body i (code := .left) (by decide)
      generalize completeEntry .left none none [] (freeSlot i (addFlagIf r.holder.isNone .noHolder (s.atSample p r))) = v
        at closes store slots queue result latches ended
      exact ⟨_, closes, (slots i).trans (if_pos rfl), fun j there => (slots j).trans (if_neg there), store, queue, result, latches, ended⟩
    · have isRelease : r.modeRelease = true := by simp [FrameRecord.modeRelease, mode]
      have head' : HeadInFlight (s.atSample p r) e rest := head
      rw [keeps isRelease lost, keepEntry_head head'] at closes
      exact ⟨_, closes, rfl, rfl, rfl, rfl, rfl, rfl, rfl⟩
  · have closes := stands.exec_closing false free (prepares_over_participant stands.2.2.1 part)
    generalize rowProt .release false s = p at closes
    obtain ⟨frees, clears⟩ := closeFrame_release_other (s := s.atSample p r) valid part slot driven
    refine ⟨fun mode state => ?_, fun mode primary => ?_⟩
    · rw [frees (by simp [FrameRecord.modeRelease, mode]) (by exact state)] at closes
      have slots := fun j => freeSlot_slot i j (s.atSample p r)
      have store := freeSlot_keeps (·.store) (fun _ _ _ => rfl) endUpkeep_store i (s.atSample p r)
      have latches := freeSlot_keeps (·.latches) (fun _ _ _ => rfl) endUpkeep_latches i (s.atSample p r)
      have elsewhere : (s.upkeep.any fun op => op.slot == i) = false → (freeSlot i (s.atSample p r)).upkeep = s.upkeep ∧
          (freeSlot i (s.atSample p r)).outcome = s.outcome ∧ (freeSlot i (s.atSample p r)).accrued = s.accrued := fun there => by
        rw [freeSlot_otherUpkeep (by exact there)]
        exact ⟨rfl, rfl, rfl⟩
      have resync : ∀ flags, s.upkeep = some ⟨.resync, i, flags⟩ → UpkeepEnded (s.atSample p r) (freeSlot i (s.atSample p r)) 0 :=
        fun flags op => freeSlot_resync (by exact op)
      generalize freeSlot i (s.atSample p r) = v at closes slots store latches elsewhere resync
      exact ⟨_, closes, (slots i).trans (if_pos rfl), fun j there => (slots j).trans (if_neg there), store,
        congrArg (· ||| Latch.role.mask) latches, elsewhere, resync⟩
    · rw [clears (by simp [FrameRecord.modeRelease, mode]) (by exact primary)] at closes
      refine ⟨_, closes, ?_⟩
      simp only [dropFrame_slot, dropFrame_store, dropFrame_latches, dropFrame_accrued]
      exact ⟨slot_setSlot_same _ i _, fun j there => slot_setSlot_ne _ _ there, rfl, rfl, rfl⟩

end Sys2Proof.Proofs
end

section
/-! Void frames (R48): the void bit, and the closing at a participant and at the originator. -/

namespace Sys2Proof.Machine

/-- What a station places in the void bit: a participant, where its request check failed. -/
theorem ownBit_void {r : FrameRecord} {k : Kind} (point : r.point = .void) (kind : r.kind = some k) (s : State) :
    ownBit r s = (r.participates && !r.checkGood) := by
  simp [ownBit, point, kind]

/-- A flag added in a frame of the station's own is in the outcome set. -/
theorem addFlag_outcome_own {s : State} {own : OwnFrame} (f : Flag) (own' : s.own = some own) :
    (addFlag f s).outcome = { s.outcome with flags := s.outcome.flags ||| withFlag f 0 } := by
  simp only [addFlag, own']
  split
  · rw [modifyCurrent_outcome]
    simp only [withFlag_or f s.outcome.flags]
  · simp only [withFlag_or f s.outcome.flags]

/-- In a void frame the slots' side of the closing is left out. -/
theorem closeFrame_void {r : FrameRecord} (void : r.voidRead = true) (k : Kind) (s : State) :
    closeFrame k r s = if r.originates then closeOriginator k r s else s := by
  simp [closeFrame, void]

/-- The originator of an entry's frame counts an attempt. -/
theorem closeOriginator_void_entry {r : FrameRecord} {k : Kind} (void : r.voidRead = true)
    (entry : k = .claim ∨ k = .release ∨ k = .write ∨ k = .read) (s : State) : closeOriginator k r s = countAttempt .void s := by
  rcases entry with rfl | rfl | rfl | rfl
  · simp [closeOriginator, closeClaimOriginator, void]
  · simp [closeOriginator, closeReleaseOriginator, void]
  · simp [closeOriginator, closeWriteOriginator, void]
  · simp [closeOriginator, closeReadOriginator, void]

/-- The state in which an upkeep frame of a kind finds its slot. -/
def Kind.upkeepState : Kind → SlotState
  | .verify => .doubt
  | .resync => .stale
  | _ => .primary

/-- The originator of a recovery frame counts a try. -/
theorem closeOriginator_void_recovery {r : FrameRecord} {k : Kind} (void : r.voidRead = true)
    (recovery : k = .verify ∨ k = .resync ∨ k = .repair) (s : State) : closeOriginator k r s = failTry k.upkeepState s := by
  rcases recovery with rfl | rfl | rfl
  · simp [closeOriginator, closeVerifyOriginator, void, Kind.upkeepState]
  · simp [closeOriginator, closeResyncOriginator, void, Kind.upkeepState]
  · simp [closeOriginator, closeRepairOriginator, void, Kind.upkeepState]

/-- The originator of an OFFER leaves its operation as it was. -/
theorem closeOriginator_void_offer {r : FrameRecord} (void : r.voidRead = true) (s : State) : closeOriginator .offer r s = s := by
  simp [closeOriginator, closeOfferOriginator, void]

/-- A failed try counts on its slot in the state expected, and does nothing else. -/
theorem failTry_cases {s : State} {k : Kind} {i : SlotIx} (st : SlotState) (own : ∃ request, s.own = some ⟨.upkeep k i, request⟩) :
    ((s.slot i).state = st ∧ failTry st s = failRecovery i s) ∨ ((s.slot i).state ≠ st ∧ failTry st s = s) := by
  by_cases state : (s.slot i).state = st
  · exact Or.inl ⟨state, failTry_of own state⟩
  · refine Or.inr ⟨state, ?_⟩
    obtain ⟨request, own⟩ := own
    have nothing : upkeepSlot st s = none := by
      simp only [upkeepSlot, own]
      exact if_neg state
    simp [failTry, nothing]

/-- What the discard of an entry given up leaves. -/
structure EntryDiscarded (s t : State) (e : Entry) : Prop where
  abandoned : t.abandoned = none
  queue     : t.queue = s.queue
  result    : t.result = s.result
  faults    : t.faults = s.faults
  latches   : t.latches = s.latches
  ended     : EntryEnded s t e 0
  freed     : ClaimSlotFreed s t e

/-- The discard of an entry given up by ABANDON (R145). -/
theorem discardAbandoned_discarded {s : State} {e : Entry} (given : s.abandoned = some e) :
    EntryDiscarded s (discardAbandoned false s) e := by
  have discards : discardAbandoned false s = freeClaim e (endEntry e { s with abandoned := none }) := by
    simp [discardAbandoned, given]
  have keeps : ∀ {α : Type} (f : State → α), (∀ i r u, f (State.setSlot u i r) = f u) →
      f (freeClaim e (endEntry e { s with abandoned := none })) = f (endEntry e { s with abandoned := none }) :=
    fun f slot => freeClaim_keeps f slot e _
  obtain ⟨outcome, accrued⟩ := endEntry_ended e { s with abandoned := none }
  obtain ⟨mine, others⟩ := freeClaim_freed e (endEntry e { s with abandoned := none })
  have slots : ∀ i, (endEntry e { s with abandoned := none }).slot i = s.slot i := fun i => slot_congr (by simp) i
  rw [discards]
  refine ⟨?_, ?_, ?_, ?_, ?_, ⟨?_, ?_⟩, fun i page body claiming => ?_, fun i other => ?_⟩
  · exact (keeps (·.abandoned) fun _ _ _ => rfl).trans (endEntry_abandoned _ _)
  · exact (keeps (·.queue) fun _ _ _ => rfl).trans (endEntry_queue _ _)
  · exact (keeps (·.result) fun _ _ _ => rfl).trans (endEntry_result _ _)
  · exact (keeps (·.faults) fun _ _ _ => rfl).trans (endEntry_faults _ _)
  · exact (keeps (·.latches) fun _ _ _ => rfl).trans (endEntry_latches _ _)
  · exact (keeps (·.outcome) fun _ _ _ => rfl).trans outcome
  · exact (keeps (·.accrued) fun _ _ _ => rfl).trans accrued
  · exact mine i page body (by rw [slots]; exact claiming)
  · rw [others i (by rw [slots]; exact other), slots]

end Sys2Proof.Machine

namespace Sys2Proof.Proofs

open Sys2Proof.Machine

/-- Settles O46: the void bit at a participant and at the originator, and the closing of a void frame at both. -/
theorem voidFrame : Obligations.VoidFrame := by
  refine ⟨fun k prot others s r stands part free => ?_, fun k prot s r stands part void free => ?_,
    fun k prot others s r op stands origin free => ?_, fun k prot s r stands void entry origin free => ?_,
    fun k prot s r i stands void upkeep origin free => ?_⟩
  · have runs := stands.exec_bit prot others (by decide) free (prepares_plain (by rw [stands.2.2.1]; decide))
    generalize rowProt k prot s = p at runs
    have point : r.lowered.point = .void := stands.2.2.1
    have drives : ownBit r.lowered (s.atSample p r) = !r.checkGood := by
      rw [ownBit_void point (kind_of_code (r := r.lowered) stands.2.1)]
      simp [FrameRecord.participates, FrameRecord.lowered, part]
    rw [singleBit_void point, drives] at runs
    have quiet : ((!r.checkGood || others) && (r.lowered.placing !r.checkGood).originates) = false := by
      simp [FrameRecord.originates, FrameRecord.placing, FrameRecord.lowered, part]
    simp only [voidBit, quiet] at runs
    exact ⟨_, _, runs, rfl, ⟨rfl, rfl, rfl, rfl, rfl, rfl⟩, part, rfl, rfl⟩
  · have closes := stands.exec_closing prot free (prepares_over_participant stands.2.2.1 part)
    rw [closeFrame_void void, if_neg (by simp [FrameRecord.originates, part])] at closes
    exact ⟨_, closes, rfl, rfl, rfl, rfl, rfl, rfl, rfl⟩
  · have runs := stands.exec_bit prot others (by decide) free (prepares_plain (by rw [stands.2.2.1]; decide))
    generalize rowProt k prot s = p at runs
    have point : r.lowered.point = .void := stands.2.2.1
    have drives : ownBit r.lowered (s.atSample p r) = false := by
      rw [ownBit_void point (kind_of_code (r := r.lowered) stands.2.1)]
      simp [FrameRecord.participates, FrameRecord.lowered, origin.1]
    rw [singleBit_void point, drives, Bool.false_or] at runs
    have flags : (others && (r.lowered.placing false).originates) = others := by
      simp [FrameRecord.originates, FrameRecord.placing, FrameRecord.lowered, origin.1]
    simp only [voidBit, flags] at runs
    obtain ⟨origin, request, own⟩ := origin
    cases others with
    | false => exact ⟨_, _, runs, rfl, origin, rfl, rfl, rfl, rfl, rfl, rfl, fun _ => ⟨rfl, rfl, rfl, rfl, rfl, rfl⟩, fun read => by simp at read⟩
    | true =>
      have added : addFlagIf true .void (s.atSample p r) = addFlag .void (s.atSample p r) := rfl
      rw [added] at runs
      have slots : (addFlag .void (s.atSample p r)).slots = s.slots := addFlag_slots _ _
      have store : (addFlag .void (s.atSample p r)).store = s.store := addFlag_store _ _
      have accrued : (addFlag .void (s.atSample p r)).accrued = s.accrued := addFlag_accrued _ _
      have latches : (addFlag .void (s.atSample p r)).latches = s.latches := addFlag_latches _ _
      have outcome := addFlag_outcome_own (s := s.atSample p r) .void own
      have goes : ∀ k' i, op = .upkeep k' i → UpkeepGoesOn (s.atSample p r) (addFlag .void (s.atSample p r)) (withFlag .void 0) :=
        fun k' i same => addFlag_goesOn .void (by rw [same] at own; exact own)
      have gathered : ∀ e rest, op = .entry → HeadInFlight s e rest → (addFlag .void (s.atSample p r)).queue =
          { e with gathered := e.gathered ||| withFlag .void 0 } :: rest := fun e rest same head =>
        (FlagsAdded.one (s := s.atSample p r) ⟨request, by rw [same] at own; exact own⟩ head .void).head.2.1
      generalize addFlag .void (s.atSample p r) = v at runs slots store accrued latches outcome goes gathered
      exact ⟨_, _, runs, rfl, origin, rfl, rfl, slots, store, accrued, latches, fun unread => by simp at unread,
        fun _ => ⟨outcome, goes, gathered⟩⟩
  · have closes := stands.exec_closing prot free (prepares_over_void stands.2.2.1 void)
    have originates : r.originates = true := beq_iff_eq.mpr origin.1
    rw [closeFrame_void void, if_pos originates, closeOriginator_void_entry void entry] at closes
    generalize rowProt k prot s = p at closes
    have store := (countAttempt_effects .void (s.atSample p r)).undisturbed.store
    have opened : r.opened = true := by simp [FrameRecord.opened, origin.1]
    have counted : ∀ e rest, HeadInFlight s e rest → AttemptCounted (s.atSample p r) (countAttempt .void (s.atSample p r)) e rest 0 .void 0 ∧
        (e.attempts = 0 ∨ e.attempts = 1 → (countAttempt .void (s.atSample p r)).slots = s.slots) ∧
        (e.attempts = 2 → ClaimSlotFreed (s.atSample p r) (countAttempt .void (s.atSample p r)) e) := fun e rest head => by
      have start := FlagsAdded.start (s := s.atSample p r) origin.2 head
      exact ⟨start.counted .void, start.counted_slots (by decide)⟩
    have discarded : ∀ e, s.abandoned = some e → EntryDiscarded (s.atSample p r) (countAttempt .void (s.atSample p r)) e :=
      fun e given => by
        have same : countAttempt .void (s.atSample p r) = discardAbandoned false (s.atSample p r) := by
          have given' : (s.atSample p r).abandoned = some e := given
          simp [countAttempt, given']
        rw [same]
        exact discardAbandoned_discarded (by exact given)
    generalize countAttempt .void (s.atSample p r) = v at closes store counted discarded
    refine ⟨_, closes, rfl, rfl, by simp [dropFrame, opened, stands.2.1], store, counted, fun e given => ?_⟩
    obtain ⟨abandoned, queue, result, faults, latches, ended, freed⟩ := discarded e given
    exact ⟨abandoned, queue, result, faults, latches, ended, freed⟩
  · have closes := stands.exec_closing prot free (prepares_over_void stands.2.2.1 void)
    have originates : r.originates = true := beq_iff_eq.mpr origin.1
    rw [closeFrame_void void, if_pos originates] at closes
    generalize rowProt k prot s = p at closes
    have opened : r.opened = true := by simp [FrameRecord.opened, origin.1]
    have own : ∃ request, (s.atSample p r).own = some ⟨.upkeep k i, request⟩ := origin.2
    intro d
    by_cases offer : k = .offer
    · subst offer
      rw [closeOriginator_void_offer void] at closes
      exact ⟨_, closes, rfl, rfl, by simp [dropFrame, opened, stands.2.1], rfl, rfl, fun _ _ => rfl,
        fun _ => ⟨rfl, upkeepGoesOn_none (s.atSample p r)⟩, fun other => by simp at other⟩
    · have recovery : k = .verify ∨ k = .resync ∨ k = .repair := by
        rcases upkeep with h | h | h | h
        · exact Or.inl h
        · exact Or.inr (Or.inl h)
        · exact Or.inr (Or.inr h)
        · exact absurd h offer
      rw [closeOriginator_void_recovery void recovery] at closes
      have expected : (k = .verify ∧ d.state = .doubt) ∨ (k = .resync ∧ d.state = .stale) ∨ (k = .repair ∧ d.state = .primary) →
          d.state = k.upkeepState := by
        rintro (⟨rfl, state⟩ | ⟨rfl, state⟩ | ⟨rfl, state⟩) <;> exact state
      rcases failTry_cases k.upkeepState own with ⟨state, fails⟩ | ⟨state, fails⟩
      · obtain ⟨slot, tried, store, latches, -⟩ := (UpkeepFlags.start (s.atSample p r)).tried i
        rw [fails] at closes
        generalize failRecovery i (s.atSample p r) = v at closes slot tried store latches
        exact ⟨_, closes, rfl, rfl, by simp [dropFrame, opened, stands.2.1], store, latches,
          fun j there => (slot j).trans (if_neg there), fun same => absurd same offer, fun _ => ⟨(slot i).trans (if_pos rfl), tried⟩⟩
      · rw [fails] at closes
        exact ⟨_, closes, rfl, rfl, by simp [dropFrame, opened, stands.2.1], rfl, rfl, fun _ _ => rfl,
          fun same => absurd same offer, fun found => absurd (expected found) state⟩

end Sys2Proof.Proofs
end

section
/-! A WRITE at its holder and its mirrors (R83 to R87): the status decided, the answer sent, the ACK and the HOLD bit. -/

namespace Sys2Proof.Machine

/-! ### The holder decides -/

/-- The holder of a WRITE prepares its answer. -/
theorem prepares_write {r : FrameRecord} {i : SlotIx} (point : r.point = .answer) (answer : r.answer = []) (won : r.contest = .won)
    (slot : r.slot = some i) (s : State) : r.prepares .write s = writeHolderBegins r i s := by
  simp [FrameRecord.prepares, point, answer, answerBegins, FrameRecord.holds, won, onSlotOfRecord, slot]

/-- The record of a holder that has decided a status, with the bytes its check covers. -/
def FrameRecord.answering (r : FrameRecord) (b : Byte) (covered : List Byte) : FrameRecord :=
  { r.lowered with status := some b, toSend := withCheck covered }

/-- The record is given its status. -/
theorem modifyFrame_answering {s : State} {r : FrameRecord} (inFrame : s.frame = some r.lowered) (b : Byte) (covered : List Byte) :
    modifyFrame (fun r => { r with status := some b, toSend := withCheck covered }) s = s.withRecord (r.answering b covered) := by
  simp [modifyFrame, State.withRecord, inFrame, FrameRecord.answering]

/-- A status other than APPLIED is all the holder sends. -/
theorem writeHolderBegins_refuses {s : State} {r : FrameRecord} {i : SlotIx} {st : BusStatus} (inFrame : s.frame = some r.lowered)
    (decides : decideWrite r (s.slot i) s.prot = st) (other : st ≠ .applied) : writeHolderBegins r i s =
      s.withRecord (r.answering (writeStatusByte st (s.slot i).partner.isSome) [writeStatusByte st (s.slot i).partner.isSome]) := by
  unfold writeHolderBegins
  dsimp only
  rw [decides, if_neg other]
  exact modifyFrame_answering inFrame _ _

/-- For APPLIED the words, the version and the check change as one, with the store idle, and the version is sent too. -/
theorem writeHolderBegins_applies {s : State} {r : FrameRecord} {i : SlotIx} (inFrame : s.frame = some r.lowered)
    (decides : decideWrite r (s.slot i) s.prot = .applied) (idle : StoreIdle s) : writeHolderBegins r i s =
      grant .frame ⟨i, .wordWrite r.reqOffset r.reqWords ((s.slot i).version + 1)⟩
        (s.withRecord (r.answering (writeStatusByte .applied (s.slot i).partner.isSome)
          (writeStatusByte .applied (s.slot i).partner.isSome :: versionBytes ((s.slot i).version + 1)))) := by
  unfold writeHolderBegins
  dsimp only
  rw [decides, if_pos rfl, modifyFrame_answering inFrame, requestForFrame, request_idle _ _ _ (by exact idle)]

/-- What a word write granted to the frame leaves. -/
theorem grant_wordWrite (s : State) (c : Claimant) (i : SlotIx) (offset : Nat) (words : List Word) (v : Version) :
    let t := grant c ⟨i, .wordWrite offset words v⟩ s
    t.frame = s.frame ∧ t.store = s.store.writeWords i offset words ∧
      ∀ j, t.slot j = if j = i then { s.slot i with version := v, check := pageCheck v (t.store.page i) } else s.slot j :=
  ⟨rfl, rfl, fun _ => slot_setSlot _ _ _ _⟩

/-- The status the holder decides, by the order of R83. -/
theorem decideWrite_eq (r : FrameRecord) (d : Slot) (prot : Bool) : decideWrite r d prot =
    if 128 < r.reqOffset + r.reqCount then .range
    else if prot = true then .prot
    else if d.version = 0xFFFFFFFF then .worn
    else .applied := by
  have past : (r.pastPage = true) = (128 < r.reqOffset + r.reqCount) := by simp [FrameRecord.pastPage, Config.wordsPerPage]
  unfold decideWrite
  simp only [past]

/-! ### A mirror at the ACK bit -/

/-- The conditions of R86, at a slot of record. -/
theorem meetsAck_iff {r : FrameRecord} {s : State} {i : SlotIx} (slot : r.slot = some i) : meetsAck r s = true ↔
    r.readApplied = true ∧ r.contest ≠ .lost ∧ (s.slot i).state = .mirror ∧ (∃ h, r.holder = some h ∧ (s.slot i).partner = some h) ∧
      r.answerCheck = some true ∧ (s.slot i).version ≠ 0xFFFFFFFF ∧ r.announced = (s.slot i).version + 1 ∧ s.prot = false := by
  have found : slotOfRecord r s = s.slot i := by simp [slotOfRecord, slot]
  cases holder : r.holder with
  | none => simp [meetsAck, holder]
  | some h =>
    simp only [meetsAck, found, holder, Config.wornVersion, Bool.and_eq_true, bne_iff_ne, beq_iff_eq, Bool.not_eq_true', Option.isSome_some,
      Option.some.injEq, exists_eq_left', and_assoc, true_and]

/-- The ACK bit as a station places it. -/
theorem ownBit_ack {r : FrameRecord} (point : r.point = .ack) (s : State) : ownBit r s = r.mirrorApply := by
  simp [ownBit, point]

/-- A mirror that meets the conditions of R86 has its word write made before the ACK bit. -/
theorem ready_ack {s : State} {r : FrameRecord} {i : SlotIx} (stands : StandsAt s r .write .ack) (fresh : r.low = false)
    (slot : r.slot = some i) (meets : meetsAck r s = true) (idle : StoreIdle s) :
    ready s = applyAccess i (.wordWrite r.reqOffset r.reqWords r.announced)
      (s.withRecord { r.lowered with mirrorApply := true }) := by
  have point : r.point = .ack := stands.2.2.1
  have meets' : meetsAck r (s.withRecord r.lowered) = true := meets
  have prepares : r.prepares .write (s.withRecord r.lowered) =
      requestForFrame i (.wordWrite r.reqOffset r.reqWords r.announced) (s.withRecord { r.lowered with mirrorApply := true }) := by
    simp only [FrameRecord.prepares, point, ackBegins]
    rw [if_pos meets', onSlotOfRecord, slot]
    rfl
  rw [ready, stands.lowPhase_fresh fresh, prepares, settle_requestForFrame (by exact idle)]
  rfl

/-- Any other station is ready as it stands. -/
theorem ready_ack_plain {s : State} {r : FrameRecord} (stands : StandsAt s r .write .ack) (misses : meetsAck r s = false)
    (free : s.arbiter.busyFor .frame = false) : ready s = s.withRecord r.lowered := by
  have point : r.point = .ack := stands.2.2.1
  have misses' : meetsAck r (s.withRecord r.lowered) = false := misses
  refine stands.ready_plain free fun _ => ?_
  simp only [FrameRecord.prepares, point, ackBegins]
  exact if_neg (by simp [misses'])

/-! ### The HOLD bit -/

/-- Who drives the HOLD bit. -/
theorem ownBit_hold {r : FrameRecord} {s : State} {i : SlotIx} (point : r.point = .hold) (slot : r.slot = some i) :
    ownBit r s = true ↔ r.readApplied = true ∧ r.contest = .notDriving ∧ (∃ h, r.holder = some h ∧ (s.slot i).partner = some h) ∧
      (((s.slot i).state = .mirror ∧ r.mirrorApply = false) ∨ (s.slot i).state = .stale) := by
  have found : slotOfRecord r s = s.slot i := by simp [slotOfRecord, slot]
  have drives : ownBit r s = drivesHold r s := by simp [ownBit, point]
  rw [drives]
  cases holder : r.holder with
  | none => simp [drivesHold, holder]
  | some h =>
    simp [drivesHold, found, holder, and_assoc]

end Sys2Proof.Machine

namespace Sys2Proof.Proofs

open Sys2Proof.Machine

/-- Settles O55: the holder's decision and what it sends, the mirror's word write at the ACK bit, and who drives HOLD. -/
theorem writeHolderAndMirror : Obligations.WriteHolderAndMirror := by
  refine ⟨fun prot s r i stands fresh answer won slot idle => ?_, fun k prot s r b tail stands toSend more begun free => ?_,
    fun s r i h stands fresh slot holder contest applied good mirror partner unworn announced idle => ?_,
    fun prot others s r i stands slot silent free misses => ?_, fun prot others s r i stands slot free => ?_⟩
  · intro d past worn status
    have runs := stands.exec_low prot fresh
    rw [prepares_write stands.2.2.1 answer won slot, show rowProt .write prot s = prot from rfl] at runs
    have decides := decideWrite_eq r d prot
    have inFrame : (s.atSample prot r).frame = some r.lowered := rfl
    have refuses : ∀ st, decideWrite r d prot = st → st ≠ .applied → exec (.writeFrame prot [.low]) s =
        .next ((s.atSample prot r).withRecord (r.answering (writeStatusByte st d.partner.isSome) [writeStatusByte st d.partner.isSome])) :=
      fun st decided other => runs.trans (congrArg _ (writeHolderBegins_refuses inFrame (by exact decided) other))
    have answers : ∀ st (u : State), st ≠ .applied → status st (u.withRecord
        (r.answering (writeStatusByte st d.partner.isSome) [writeStatusByte st d.partner.isSome])) := fun st u other => by
      refine ⟨_, rfl, rfl, ?_⟩
      rw [if_neg other]
      rfl
    by_cases beyond : past
    · rw [if_pos beyond] at decides
      exact ⟨_, refuses .range decides (by decide), fun _ _ => rfl, fun _ => answers .range _ (by decide), fun within => absurd beyond within,
        fun within => absurd beyond within, fun _ => ⟨rfl, rfl⟩, fun within => absurd beyond within⟩
    · rw [if_neg beyond] at decides
      cases prot with
      | true =>
        exact ⟨_, refuses .prot decides (by decide), fun _ _ => rfl, fun found => absurd found beyond, fun _ _ => answers .prot _ (by decide),
          fun _ low => by simp at low, fun _ => ⟨rfl, rfl⟩, fun _ low => by simp at low⟩
      | false =>
        rw [if_neg (by decide)] at decides
        by_cases full : worn
        · rw [if_pos full] at decides
          exact ⟨_, refuses .worn decides (by decide), fun _ _ => rfl, fun found => absurd found beyond, fun _ high => by simp at high,
            fun _ _ _ => answers .worn _ (by decide), fun _ => ⟨rfl, rfl⟩, fun _ _ unworn => absurd full unworn⟩
        · rw [if_neg full] at decides
          rw [writeHolderBegins_applies inFrame (by exact decides) (by exact idle)] at runs
          obtain ⟨frame, store, slots⟩ := grant_wordWrite ((s.atSample false r).withRecord
            (r.answering (writeStatusByte .applied d.partner.isSome) (writeStatusByte .applied d.partner.isSome :: versionBytes (d.version + 1))))
            .frame i r.reqOffset r.reqWords (d.version + 1)
          generalize made : grant .frame ⟨i, .wordWrite r.reqOffset r.reqWords (d.version + 1)⟩ ((s.atSample false r).withRecord
            (r.answering (writeStatusByte .applied d.partner.isSome)
              (writeStatusByte .applied d.partner.isSome :: versionBytes (d.version + 1)))) = v at frame store slots
          refine ⟨v, runs.trans (congrArg _ made), fun j there => (slots j).trans (if_neg there), fun found => absurd found beyond,
            fun _ high => by simp at high, fun _ _ full' => absurd full' full, fun found => ?_,
            fun _ _ _ => ⟨⟨_, frame, rfl, ?_⟩, store, (slots i).trans (if_pos rfl)⟩⟩
          · rcases found with found | high | found
            · exact absurd found beyond
            · simp at high
            · exact absurd found full
          · rw [if_pos rfl]
            rfl
  · have point : r.point = .answer := stands.2.2.1
    have prepared : ready (readProt (rowProt k prot s) s) = (s.atSample (rowProt k prot s) r) := by
      refine (stands.readProt _).ready_plain free fun fresh => ?_
      have answer : r.answer.isEmpty = false := by simpa [fresh] using begun
      simp [FrameRecord.prepares, point, answer]
    have runs := stands.exec_byte_prepared prot 0xFF (by decide) (by decide) prepared rfl rfl ⟨rfl, rfl, stands.2.2.2.2.1⟩ free
      (Or.inl (by decide)) (losesNothing_alone _ _)
    rw [ownByte_answer (q := r.lowered) point toSend, show b &&& 0xFF = b from BitVec.and_allOnes,
      byteRead_answer (q := r.lowered) point (kind_of_code (r := r.lowered) stands.2.1),
      answerByteRead_sender (r := r.lowered.withByte b 0xFF) k b _ toSend more, withRecord_withRecord] at runs
    exact ⟨_, _, runs, rfl, rfl, rfl, rfl, rfl, rfl⟩
  · have meets : meetsAck r (readProt false s) = true :=
      (meetsAck_iff slot).mpr ⟨applied, by simp [contest], mirror, ⟨h, holder, partner⟩, good, unworn, announced, rfl⟩
    have runs := stands.exec_bit_prepared (q := { r.lowered with mirrorApply := true }) false false (by decide)
      (ready_ack (stands.readProt false) fresh slot meets (by exact idle)) rfl rfl
    rw [singleBit_ack (by exact stands.2.2.1), ownBit_ack (by exact stands.2.2.1), show rowProt .write false s = false from rfl] at runs
    have slots : ∀ j, (applyAccess i (.wordWrite r.reqOffset r.reqWords r.announced)
        ((readProt false s).withRecord { r.lowered with mirrorApply := true })).slot j = if j = i then { s.slot i with
          version := r.announced, check := pageCheck r.announced ((s.store.writeWords i r.reqOffset r.reqWords).page i) } else s.slot j :=
      fun j => slot_setSlot _ _ _ _
    have store : (applyAccess i (.wordWrite r.reqOffset r.reqWords r.announced)
        ((readProt false s).withRecord { r.lowered with mirrorApply := true })).store = s.store.writeWords i r.reqOffset r.reqWords :=
      setSlot_store _ _ _
    generalize applyAccess i (.wordWrite r.reqOffset r.reqWords r.announced)
      ((readProt false s).withRecord { r.lowered with mirrorApply := true }) = v at runs slots store
    rw [← store] at slots
    exact ⟨_, _, runs, rfl, rfl, rfl, store, (slots i).trans (if_pos rfl), fun j there => (slots j).trans (if_neg there)⟩
  · have misses' : meetsAck r (readProt prot s) = false :=
      Bool.eq_false_iff.mpr fun meets => misses ((meetsAck_iff slot).mp meets)
    have runs := stands.exec_bit_prepared (q := r.lowered) prot others (by decide)
      (ready_ack_plain (stands.readProt prot) misses' free) rfl rfl
    have point : r.lowered.point = .ack := stands.2.2.1
    rw [singleBit_ack point, ownBit_ack point, show r.lowered.mirrorApply = false from silent, Bool.false_or] at runs
    exact ⟨_, _, runs, rfl, rfl, silent, rfl, rfl, rfl⟩
  · have runs := stands.exec_bit prot others (by decide) free (prepares_plain (by rw [stands.2.2.1]; decide))
    generalize rowProt .write prot s = p at runs
    have point : r.lowered.point = .hold := stands.2.2.1
    have drives := ownBit_hold (r := r.lowered) (s := s.atSample p r) point slot
    rw [singleBit_hold point] at runs
    generalize ownBit r.lowered (s.atSample p r) = own at runs drives
    refine ⟨_, _, runs, rfl, rfl, rfl, rfl, fun found => ?_, fun found => ?_⟩
    · have driven : own = true := drives.mpr found
      subst driven
      exact ⟨rfl, rfl⟩
    · have quiet : own = false := Bool.eq_false_iff.mpr fun driven => found (drives.mp driven)
      subst quiet
      exact ⟨rfl, rfl⟩

end Sys2Proof.Proofs
end

section
/-! The role bits (R49 to R51): which slots drive presence, and the promotion at the fill bit. -/

namespace Sys2Proof.Machine

/-- The presence bit as a station places it. -/
theorem ownBit_presence {r : FrameRecord} {k : Kind} (point : r.point = .presence) (kind : r.kind = some k) (s : State) :
    ownBit r s = drivesPresence k r s := by
  simp [ownBit, point, kind]

/-- Which slots drive it, by the table of R49. -/
theorem drivesPresence_iff {r : FrameRecord} {s : State} {i : SlotIx} (k : Kind) (slot : r.slot = some i) : drivesPresence k r s = true ↔
    ((s.slot i).state = .primary ∧
        (r.part = .participant ∨ (k = .repair ∨ k = .offer ∨ k = .write ∨ (k = .release ∧ r.reqMode = 0x01)))) ∨
      ((s.slot i).state = .doubt ∧ k = .claim ∧ r.part = .participant) := by
  have found : slotOfRecord r s = s.slot i := by simp [slotOfRecord, slot]
  unfold drivesPresence FrameRecord.participates FrameRecord.modeRelease
  rw [found]
  cases k with
  | verify => simp [and_comm]
  | resync => simp [and_comm]
  | read => simp [and_comm]
  | repair => simp
  | offer => simp
  | write => simp
  | claim =>
    simp only [Bool.and_eq_true, Bool.or_eq_true, beq_iff_eq, reduceCtorEq, false_and, or_false, true_and]
    tauto
  | release =>
    simp only [Bool.and_eq_true, Bool.or_eq_true, beq_iff_eq, reduceCtorEq, false_or, false_and, and_false, or_false, true_and]
    tauto

/-- The fill bit as a station places it. -/
theorem ownBit_fill {r : FrameRecord} {k : Kind} (point : r.point = .fill) (kind : r.kind = some k) (s : State) :
    ownBit r s = drivesFill k r s := by
  simp [ownBit, point, kind]

/-- A participant's MIRROR fills where presence read undriven, in the kinds that promote. -/
theorem drivesFill_of {r : FrameRecord} {s : State} {i : SlotIx} {k : Kind} (promoting : k = .claim ∨ k = .write ∨ k = .read ∨ k = .resync)
    (part : r.part = .participant) (presence : r.presence = false) (slot : r.slot = some i) (mirror : (s.slot i).state = .mirror) :
    drivesFill k r s = true := by
  have found : slotOfRecord r s = s.slot i := by simp [slotOfRecord, slot]
  rcases promoting with rfl | rfl | rfl | rfl <;> simp [drivesFill, found, presence, mirror, FrameRecord.participates, part]

/-- The kinds that promote. -/
theorem promotes_of {k : Kind} (promoting : k = .claim ∨ k = .write ∨ k = .read ∨ k = .resync) : promotes k = true := by
  rcases promoting with rfl | rfl | rfl | rfl <;> rfl

/-- The fill bit driven by a participant's MIRROR promotes it. -/
theorem fillBit_promotes {r : FrameRecord} {s : State} {i : SlotIx} {k : Kind} (promoting : promotes k = true)
    (part : r.part = .participant) (slot : r.slot = some i) (mirror : (s.slot i).state = .mirror) :
    fillBit k r true true s = (reportRole true (becomePrimary i none (s.slot i).damaged s)).withRecord
      { r.fieldDone .holder with fill := true, roleDrive := .fill } := by
  have reads : r.originates = false ∧ r.participates = true := by simp [FrameRecord.originates, FrameRecord.participates, part]
  have promoted : promoteAtFill k r true s = reportRole true (becomePrimary i none (s.slot i).damaged s) := by
    simp [promoteAtFill, promoting, onSlotOfRecord, slot, mirror, reads]
  have flags : ∀ u, addFlagIf (true && r.originates && promotes k) .takeover u = u := fun u => by simp [addFlagIf, reads]
  unfold fillBit
  dsimp only
  rw [promoted, flags]
  rfl

end Sys2Proof.Machine

namespace Sys2Proof.Proofs

open Sys2Proof.Machine

/-- Settles O47: a participant's MIRROR drives the fill bit and is promoted at it. -/
theorem promotionAtFill : Obligations.PromotionAtFill := by
  intro k prot others s r i promoting stands part presence slot mirror free
  have runs := stands.exec_bit prot others (by decide) free (prepares_plain (by rw [stands.2.2.1]; decide))
  generalize rowProt k prot s = p at runs
  have point : r.lowered.point = .fill := stands.2.2.1
  have kind : r.lowered.kind = some k := kind_of_code (r := r.lowered) stands.2.1
  have drives : ownBit r.lowered (s.atSample p r) = true := by
    rw [ownBit_fill point kind]
    exact drivesFill_of promoting part presence slot (by exact mirror)
  rw [singleBit_fill point kind, drives, Bool.true_or,
    fillBit_promotes (r := r.lowered.placing true) (promotes_of promoting) part slot (by exact mirror)] at runs
  exact ⟨_, _, runs, rfl, rfl, rfl, slot_setSlot_same _ i _, fun j there => slot_setSlot_ne _ _ there, rfl, rfl, rfl⟩

end Sys2Proof.Proofs
end

section
/-! A byte two stations contest, bit by bit (R24, R31, R53): as long as they place the same the station keeps its contest; at the first
bit it placed as 1 and read as 0 it loses, and reads the rest. -/

namespace Sys2Proof.Machine

/-! ### Bits as a number -/

/-- The number bits spell, first bit first. -/
def bitsNat : List Bool → Nat
  | [] => 0
  | b :: bs => b.toNat * 2 ^ bs.length + bitsNat bs

/-- It has as many bits. -/
theorem bitsNat_lt : ∀ bs : List Bool, bitsNat bs < 2 ^ bs.length
  | [] => by simp [bitsNat]
  | b :: bs => by
    have rest := bitsNat_lt bs
    have bit : b.toNat * 2 ^ bs.length ≤ 2 ^ bs.length := by cases b <;> simp
    rw [bitsNat, List.length_cons, Nat.pow_succ]
    omega

/-- The bits of a byte spell its number. -/
theorem bitsNat_byteBits : ∀ b : Byte, bitsNat (byteBits b) = b.toNat := by decide +kernel

/-- Of two numbers of as many bits the lower agrees in the first bit and is lower in the rest, or has 0 there against 1. -/
theorem bitsNat_cons_lt {a b : Bool} {as bs : List Bool} (same : as.length = bs.length) (lower : bitsNat (b :: bs) < bitsNat (a :: as)) :
    (b = a ∧ bitsNat bs < bitsNat as) ∨ (a = true ∧ b = false) := by
  have low := bitsNat_lt as
  rw [bitsNat, bitsNat, same] at lower
  rw [same] at low
  cases a <;> cases b
  · exact Or.inl ⟨rfl, by simpa using lower⟩
  · simp at lower
    omega
  · exact Or.inr ⟨rfl, rfl⟩
  · exact Or.inl ⟨rfl, by simpa using lower⟩

/-- A byte's bit by its place. -/
theorem byteBits_get (b : Byte) {n : Nat} (small : n < 8) : (byteBits b)[n]? = some (b.getLsbD (7 - n)) := by
  interval_cases n <;> rfl

/-- The bit that comes next of a byte partly read. -/
theorem getLsbD_of_byteBits {own : Byte} {bits as : List Bool} {a : Bool} (spelled : bits ++ a :: as = byteBits own)
    (small : bits.length < 8) : own.getLsbD (7 - bits.length) = a := by
  have found := byteBits_get own small
  rw [← spelled, List.getElem?_append_right (Nat.le_refl _), Nat.sub_self, List.getElem?_cons_zero] at found
  exact (Option.some.inj found).symm

/-! ### One bit -/

/-- The station after a bit of a byte, before the byte is read whole. -/
def State.afterBit (s : State) (others : Bool) (r : FrameRecord) : State :=
  let q := r.sampled others (drivesBit r s)
  followWinner q (if others && !drivesBit r s then loseContest q (s.withRecord q) else s.withRecord q)

/-- A bit of a byte, and the byte with its eighth. -/
theorem byteBit_eq (others : Bool) (r : FrameRecord) (s : State) : byteBit others r s =
    if r.bits.length < 7 then s.afterBit others r
    else byteRead (byteOf (r.bits ++ [!(drivesBit r s || others)])) (s.afterBit others r) := by
  have eighth : (r.bits.length + 1 < 8) = (r.bits.length < 7) := propext (by omega)
  unfold byteBit State.afterBit
  simp only [sampled_bits, List.length_append, List.length_singleton, eighth]

/-- A bit of a byte before which nothing is prepared. -/
theorem bitComplete_plain {s : State} {r : FrameRecord} (others : Bool) (inFrame : s.frame = some r) (reads : r.part ≠ .onlooker)
    (byte : r.point.isByte = true) (begins : r.low = true ∨ r.bits ≠ [] ∨ r.point.plainByte) (free : s.arbiter.busyFor .frame = false) :
    bitComplete others s = byteBit others r.lowered (s.withRecord r.lowered) := by
  by_cases begun : r.low = true ∨ r.bits ≠ []
  · exact bitComplete_byte others inFrame reads byte begun free
  · have low : r.low = false := by simpa using fun h => begun (Or.inl h)
    have plain : r.point.plainByte := by
      rcases begins with h | h | h
      · exact absurd (Or.inl h) begun
      · exact absurd (Or.inr h) begun
      · exact h
    have ready : ready s = s.withRecord r.lowered := by
      rw [Machine.ready, lowPhase_plain inFrame reads low (Or.inr (by
        rcases plain with h | h | h | h | h | h <;> simp [h])), settle_free (by exact free)]
      simp [FrameRecord.lowered, low]
    have same : r.lowered.point.isByte = true := byte
    simp only [bitComplete, ready, withRecord_frame, same, if_true]

/-- Whether a station drives a bit of a byte: where it places 0. -/
theorem drivesBit_byte {r : FrameRecord} (reads : r.part ≠ .onlooker) (byte : r.point.isByte = true) (s : State) :
    drivesBit r s = !(ownByte r s).getLsbD (7 - r.bits.length) := by
  simp [drivesBit, reads, byte]

/-! ### The whole byte -/

/-- A station that has lost reads the rest of the byte, whatever it makes of each bit. -/
theorem lostBits {Lost : State → List Bool → Prop}
    (goes : ∀ u bits b, bits.length < 8 → Lost u bits → ∃ v, Lost v (bits ++ [b]) ∧
      bitComplete (!b) u = if bits.length < 7 then v else byteRead (byteOf (bits ++ [b])) v) :
    ∀ (bs bits : List Bool) (u : State), bs ≠ [] → bits.length + bs.length = 8 → Lost u bits →
      ∃ v, Lost v (bits ++ bs) ∧ bs.foldl (fun s b => bitComplete (!b) s) u = byteRead (byteOf (bits ++ bs)) v := by
  intro bs
  induction bs with
  | nil => exact fun _ _ nonempty => absurd rfl nonempty
  | cons b bs ih =>
    intro bits u _ whole lost
    rw [List.length_cons] at whole
    obtain ⟨v, lost', step⟩ := goes u bits b (by omega) lost
    rw [List.foldl_cons, step]
    by_cases last : bs = []
    · subst last
      rw [if_neg (by simp at whole; omega)]
      exact ⟨v, lost', rfl⟩
    · have more : 0 < bs.length := List.length_pos_iff.mpr last
      obtain ⟨w, lost'', rest⟩ := ih (bits ++ [b]) v last (by simp; omega) lost'
      rw [List.append_assoc, List.singleton_append] at lost'' rest
      rw [if_pos (by omega)]
      exact ⟨w, lost'', rest⟩

/-- A byte in which others place a lower number: the station has lost by its end. -/
theorem contestedBits {s : State} {r : FrameRecord} {own : Byte} {Lost : State → List Bool → Prop} (reads : r.part ≠ .onlooker)
    (byte : r.point.isByte = true) (plain : r.point.plainByte) (free : s.arbiter.busyFor .frame = false)
    (calm : r.point ≠ .holder ∨ r.demoted = false) (places : ownByte r s = own)
    (loses : ∀ bits held alone, bits.length < 8 → own.getLsbD (7 - bits.length) = true →
      Lost ((s.withRecord (r.reading bits true held alone)).afterBit true (r.reading bits true held alone)) (bits ++ [false]))
    (goes : ∀ u bits b, bits.length < 8 → Lost u bits → ∃ v, Lost v (bits ++ [b]) ∧
      bitComplete (!b) u = if bits.length < 7 then v else byteRead (byteOf (bits ++ [b])) v) :
    ∀ (bs as bits : List Bool) (low held alone : Bool), bits.length + bs.length = 8 → bits ++ as = byteBits own →
      as.length = bs.length → bitsNat bs < bitsNat as →
      ∃ v, Lost v (bits ++ bs) ∧ bs.foldl (fun s b => bitComplete (!b) s) (s.withRecord (r.reading bits low held alone)) =
        byteRead (byteOf (bits ++ bs)) v := by
  intro bs
  induction bs with
  | nil =>
    intro as bits _ _ _ _ _ same lower
    rw [List.length_nil, List.length_eq_zero_iff] at same
    simp [same, bitsNat] at lower
  | cons b bs ih =>
    intro as bits low held alone whole spelled same lower
    rw [List.length_cons] at whole
    obtain ⟨a, as, rfl⟩ : ∃ a as', as = a :: as' := List.exists_cons_of_length_pos (by rw [same]; simp)
    have small : bits.length < 8 := by omega
    have bit := getLsbD_of_byteBits spelled small
    have same' : as.length = bs.length := by simpa using same
    have lowered : (r.reading bits low held alone).lowered = r.reading bits true (low && held) alone := rfl
    have drives : drivesBit (r.reading bits true (low && held) alone) (s.withRecord (r.reading bits true (low && held) alone)) = !a := by
      rw [drivesBit_byte (r := r.reading bits true (low && held) alone) reads byte]
      exact congrArg (!·) ((congrArg (fun o : Byte => o.getLsbD (7 - bits.length)) places).trans bit)
    have step : ∀ o, bitComplete o (s.withRecord (r.reading bits low held alone)) =
        byteBit o (r.reading bits true (low && held) alone) (s.withRecord (r.reading bits true (low && held) alone)) := fun o =>
      bitComplete_plain (s := s.withRecord (r.reading bits low held alone)) (r := r.reading bits low held alone) o rfl reads byte
        (Or.inr (Or.inr plain)) free
    rw [List.foldl_cons, step]
    rcases bitsNat_cons_lt same' lower with ⟨agrees, lower'⟩ | ⟨one, zero⟩
    · have more : 0 < bs.length := by
        rcases Nat.eq_zero_or_pos bs.length with none | some
        · rw [List.length_eq_zero_iff.mp none, List.length_eq_zero_iff.mp (same'.trans none)] at lower'
          exact absurd lower' (Nat.lt_irrefl _)
        · exact some
      subst agrees
      have kept := byteBit_kept (r := r.reading bits true (low && held) alone)
        (s := s.withRecord (r.reading bits true (low && held) alone)) (others := !b) calm fun asked undriven => by
          rw [drives, asked] at undriven
          simp at undriven
      have short : (r.reading bits true (low && held) alone).bits.length < 7 := by
        show bits.length < 7
        omega
      rw [drives, if_pos short] at kept
      have sampled : (r.reading bits true (low && held) alone).sampled (!b) (!b) = r.reading (bits ++ [b]) false (!b) alone := by
        cases b <;> simp [FrameRecord.sampled, FrameRecord.reading]
      rw [kept, sampled, withRecord_withRecord]
      obtain ⟨v, lost, rest⟩ := ih as (bits ++ [b]) false (!b) alone (by simp; omega) (by simpa using spelled) same' lower'
      rw [List.append_assoc, List.singleton_append] at lost rest
      exact ⟨v, lost, rest⟩
    · subst one zero
      have lost := loses bits (low && held) alone small bit
      have placed : (r.reading bits true (low && held) alone).bits = bits := rfl
      rw [byteBit_eq, drives, placed]
      simp only [Bool.not_true, Bool.not_false, Bool.false_or]
      generalize (s.withRecord (r.reading bits true (low && held) alone)).afterBit true (r.reading bits true (low && held) alone) = u at lost
      by_cases last : bs = []
      · subst last
        rw [if_neg (by simp at whole; omega)]
        exact ⟨u, lost, rfl⟩
      · have more : 0 < bs.length := List.length_pos_iff.mpr last
        obtain ⟨v, lost', rest⟩ := lostBits goes bs (bits ++ [false]) u last (by simp; omega) lost
        rw [List.append_assoc, List.singleton_append] at lost' rest
        rw [if_pos (by omega)]
        exact ⟨v, lost', rest⟩

/-- The byte from its start. -/
theorem contestedByte {s : State} {r : FrameRecord} {own others : Byte} {Lost : State → List Bool → Prop} (inFrame : s.frame = some r)
    (reads : r.part ≠ .onlooker) (byte : r.point.isByte = true) (plain : r.point.plainByte) (bits : r.bits = [])
    (free : s.arbiter.busyFor .frame = false) (calm : r.point ≠ .holder ∨ r.demoted = false) (places : ownByte r s = own)
    (lower : others < own)
    (loses : ∀ bits held alone, bits.length < 8 → own.getLsbD (7 - bits.length) = true →
      Lost ((s.withRecord (r.reading bits true held alone)).afterBit true (r.reading bits true held alone)) (bits ++ [false]))
    (goes : ∀ u bits b, bits.length < 8 → Lost u bits → ∃ v, Lost v (bits ++ [b]) ∧
      bitComplete (!b) u = if bits.length < 7 then v else byteRead (byteOf (bits ++ [b])) v) :
    ∃ v, Lost v (byteBits others) ∧ byteComplete others s = byteRead others v := by
  have start : s = s.withRecord (r.reading [] r.low r.pbdHeld r.alone) := by
    have same : r.reading [] r.low r.pbdHeld r.alone = r := by
      simp only [FrameRecord.reading]
      rw [← bits]
    rw [same, withRecord_self inFrame]
  obtain ⟨v, lost, read⟩ := contestedBits reads byte plain free calm places loses goes (byteBits others) (byteBits own) []
    r.low r.pbdHeld r.alone (by simp) rfl (by simp) (by rw [bitsNat_byteBits, bitsNat_byteBits]; exact lower)
  rw [← start, List.nil_append, byteOf_byteBits] at read
  exact ⟨v, lost, read⟩

end Sys2Proof.Machine
end

section
/-! Arbitration lost (R31, R32): what the station gives up at the bit, and how it reads on. -/

namespace Sys2Proof.Machine

/-! ### What is given up does not depend on the record of the frame -/

theorem modifyCurrent_withRecord (f : Entry → Entry) (s : State) (r : FrameRecord) :
    modifyCurrent f (s.withRecord r) = (modifyCurrent f s).withRecord r := by
  have same : (s.withRecord r).abandoned = s.abandoned := rfl
  unfold modifyCurrent
  rw [same]
  cases s.abandoned <;> rfl

theorem addFlag_withRecord (f : Flag) (s : State) (r : FrameRecord) : addFlag f (s.withRecord r) = (addFlag f s).withRecord r := by
  rcases Option.eq_none_or_eq_some s.own with none | ⟨⟨op, request⟩, own⟩
  · have nothing : ∀ t : State, t.own = Option.none → addFlag f t = t := fun t lacks => by simp [addFlag, lacks]
    rw [nothing s none, nothing (s.withRecord r) none]
  · cases op with
    | entry =>
      have adds : ∀ t : State, t.own = some ⟨.entry, request⟩ → addFlag f t =
          modifyCurrent (fun e => { e with gathered := withFlag f e.gathered })
            { t with outcome := { t.outcome with flags := withFlag f t.outcome.flags } } := fun t has => by simp [addFlag, has]
      rw [adds s own, adds (s.withRecord r) own]
      exact modifyCurrent_withRecord _ { s with outcome := { s.outcome with flags := withFlag f s.outcome.flags } } r
    | upkeep k i =>
      have adds : ∀ t : State, t.own = some ⟨.upkeep k i, request⟩ → addFlag f t =
          { t with
            outcome := { t.outcome with flags := withFlag f t.outcome.flags }
            upkeep := t.upkeep.map fun op => { op with flags := withFlag f op.flags } } := fun t has => by simp [addFlag, has]
      rw [adds s own, adds (s.withRecord r) own]
      rfl

theorem freeClaim_withRecord (e : Entry) (s : State) (r : FrameRecord) : freeClaim e (s.withRecord r) = (freeClaim e s).withRecord r := by
  unfold freeClaim
  split
  · next page i body =>
    have same : (s.withRecord r).slot i = s.slot i := rfl
    rw [same]
    split <;> rfl
  · rfl

theorem keepEntry_withRecord (s : State) (r : FrameRecord) : keepEntry (s.withRecord r) = (keepEntry s).withRecord r := by
  rcases Option.eq_none_or_eq_some s.abandoned with none | ⟨e, given⟩
  · have keeps : ∀ t : State, t.abandoned = Option.none → keepEntry t = modifyCurrent (fun e => { e with inFlight := false }) t :=
      fun t lacks => by simp [keepEntry, lacks]
    rw [keeps s none, keeps (s.withRecord r) none, modifyCurrent_withRecord]
  · have discards : ∀ t : State, t.abandoned = some e → keepEntry t = freeClaim e (endEntry e { t with abandoned := Option.none }) :=
      fun t has => by simp [keepEntry, discardAbandoned, has]
    rw [discards s given, discards (s.withRecord r) given]
    exact freeClaim_withRecord e (endEntry e { s with abandoned := Option.none }) r

/-- Giving up a frame does not look at its record. -/
theorem loseArbitration_withRecord (s : State) (r : FrameRecord) :
    loseArbitration (s.withRecord r) = (loseArbitration s).withRecord r := by
  rcases Option.eq_none_or_eq_some s.own with none | ⟨⟨op, request⟩, own⟩
  · have nothing : ∀ t : State, t.own = Option.none → loseArbitration t = t := fun t lacks => by simp [loseArbitration, lacks]
    rw [nothing s none, nothing (s.withRecord r) none]
  · cases op with
    | entry =>
      have loses : ∀ t : State, t.own = some ⟨.entry, request⟩ → loseArbitration t =
          { keepEntry (addFlag .arbLost t) with own := none } := fun t has => by simp [loseArbitration, has]
      rw [loses s own, loses (s.withRecord r) own, addFlag_withRecord, keepEntry_withRecord]
      rfl
    | upkeep k i =>
      have loses : ∀ t : State, t.own = some ⟨.upkeep k i, request⟩ → loseArbitration t =
          { addFlag .arbLost t with own := none } := fun t has => by simp [loseArbitration, has]
      rw [loses s own, loses (s.withRecord r) own, addFlag_withRecord]
      rfl

/-! ### What it leaves of the operation -/

/-- A frame given up: the flag, and the entry kept without an attempt. -/
theorem loseArbitration_own {s : State} {op : OpRef} {request : List Byte} (own : s.own = some ⟨op, request⟩) :
    (op = .entry → loseArbitration s = { keepEntry (addFlag .arbLost s) with own := none }) ∧
      (∀ k i, op = .upkeep k i → loseArbitration s = { addFlag .arbLost s with own := none }) := by
  refine ⟨fun entry => ?_, fun k i upkeep => ?_⟩
  · subst entry
    simp [loseArbitration, own]
  · subst upkeep
    simp [loseArbitration, own]

/-- What arbitration lost leaves at the station. -/
structure FrameGivenUp (s v : State) (op : OpRef) : Prop where
  own     : v.own = none
  store   : v.store = s.store
  marker  : v.marker = s.marker
  straps  : v.straps = s.straps
  free    : v.arbiter.busyFor .frame = s.arbiter.busyFor .frame
  flags   : v.outcome.flags = withFlag .arbLost s.outcome.flags
  slots   : op ≠ .entry ∨ s.abandoned = none → v.slots = s.slots
  discard : ∀ e, op = .entry → s.abandoned = some e → v.abandoned = none ∧ v.queue = s.queue ∧ ClaimSlotFreed s v e
  entry   : ∀ e rest, op = .entry → HeadInFlight s e rest →
    v.queue = { e with inFlight := false, gathered := withFlag .arbLost e.gathered } :: rest
  upkeep  : ∀ k i, op = .upkeep k i → UpkeepGoesOn s v (withFlag .arbLost 0)

/-- What the entry kept leaves alone. -/
theorem keepEntry_keeps {α : Type} (f : State → α) (slot : ∀ i r u, f (State.setSlot u i r) = f u)
    (ended : ∀ e u, f (endEntry e u) = f u) (queue : ∀ (q : List Entry) (u : State), f { u with queue := q } = f u)
    (given : ∀ (a : Option Entry) (u : State), f { u with abandoned := a } = f u) (s : State) : f (keepEntry s) = f s := by
  rcases Option.eq_none_or_eq_some s.abandoned with none | ⟨e, given'⟩
  · have keeps : ∃ q, keepEntry s = { s with queue := q } := by
      rw [keepEntry, none]
      unfold modifyCurrent
      rw [none]
      exact ⟨_, rfl⟩
    obtain ⟨q, keeps⟩ := keeps
    rw [keeps]
    exact queue q s
  · have discards : keepEntry s = freeClaim e (endEntry e { s with abandoned := Option.none }) := by
      simp [keepEntry, discardAbandoned, given']
    rw [discards, freeClaim_keeps f slot, ended]
    exact given _ s

/-- An entry's end leaves the flags of the outcome set. -/
theorem endEntry_flags (e : Entry) (s : State) : (endEntry e s).outcome.flags = s.outcome.flags := by
  unfold endEntry
  dsimp only
  split <;> rfl

/-- A flag added in a frame of an entry given up by ABANDON is gathered by that entry. -/
theorem addFlag_abandoned {s : State} {e : Entry} {request : List Byte} (f : Flag) (own : s.own = some ⟨.entry, request⟩)
    (given : s.abandoned = some e) : (addFlag f s).abandoned = some { e with gathered := withFlag f e.gathered } ∧
      (addFlag f s).queue = s.queue := by
  simp [addFlag, own, modifyCurrent, given]

/-- A flag does not give up an entry. -/
theorem addFlag_notAbandoned {s : State} (f : Flag) (whole : s.abandoned = none) : (addFlag f s).abandoned = none := by
  unfold addFlag
  split
  · exact whole
  · split
    · simp [modifyCurrent, whole]
    · exact whole

/-- An entry kept that was not given up leaves the slots. -/
theorem keepEntry_slots {s : State} (whole : s.abandoned = none) : (keepEntry s).slots = s.slots := by
  simp [keepEntry, whole]

/-- Arbitration lost. -/
theorem loseArbitration_givenUp {s : State} {op : OpRef} {request : List Byte} (own : s.own = some ⟨op, request⟩) :
    FrameGivenUp s (loseArbitration s) op := by
  have flags : (addFlag .arbLost s).outcome.flags = withFlag .arbLost s.outcome.flags := by
    rw [addFlag_outcome_own .arbLost own]
    exact (withFlag_or .arbLost s.outcome.flags).symm
  have free : ∀ u : State, (addFlag .arbLost u).arbiter = u.arbiter := addFlag_arbiter .arbLost
  obtain ⟨entries, upkeeps⟩ := loseArbitration_own own
  cases op with
  | entry =>
    rw [entries rfl]
    refine ⟨rfl, ?_, ?_, ?_, ?_, ?_, fun whole => ?_, fun e _ given => ?_, fun e rest _ head => ?_, fun k i upkeep => by simp at upkeep⟩
    · exact (keepEntry_keeps (·.store) (fun _ _ _ => rfl) (fun _ _ => endEntry_store _ _) (fun _ _ => rfl) (fun _ _ => rfl) _).trans
        (addFlag_store _ _)
    · exact (keepEntry_keeps (·.marker) (fun _ _ _ => rfl) (fun _ _ => endEntry_marker _ _) (fun _ _ => rfl) (fun _ _ => rfl) _).trans
        (addFlag_marker _ _)
    · exact (keepEntry_keeps (·.straps) (fun _ _ _ => rfl) (fun _ _ => endEntry_straps _ _) (fun _ _ => rfl) (fun _ _ => rfl) _).trans
        (addFlag_straps _ _)
    · exact (keepEntry_keeps (·.arbiter.busyFor .frame) (fun _ _ _ => rfl) (fun _ _ => rfl) (fun _ _ => rfl) (fun _ _ => rfl) _).trans
        (congrArg (·.busyFor .frame) (free s))
    · exact (keepEntry_keeps (·.outcome.flags) (fun _ _ _ => rfl) endEntry_flags (fun _ _ => rfl) (fun _ _ => rfl) _).trans flags
    · have none : s.abandoned = Option.none := whole.resolve_left (by simp)
      exact (keepEntry_slots (addFlag_notAbandoned .arbLost none)).trans (addFlag_slots _ _)
    · obtain ⟨given', queue⟩ := addFlag_abandoned .arbLost own given
      have discards : keepEntry (addFlag .arbLost s) = discardAbandoned false (addFlag .arbLost s) := by simp [keepEntry, given']
      obtain ⟨abandoned, queue', -, -, -, -, mine, others⟩ := discardAbandoned_discarded given'
      rw [discards]
      refine ⟨abandoned, queue'.trans queue, fun i page body claiming => mine i page body (by simpa using claiming), fun i other => ?_⟩
      rw [← addFlag_slot .arbLost s i]
      exact others i (by simpa using other)
    · rw [keepEntry_head (addFlag_head .arbLost own head)]
  | upkeep k i =>
    rw [upkeeps k i rfl]
    exact ⟨rfl, addFlag_store _ _, addFlag_marker _ _, addFlag_straps _ _, congrArg (·.busyFor .frame) (free s), flags,
      fun _ => addFlag_slots _ _, fun _ entry => by simp at entry, fun _ _ entry => by simp at entry,
      fun _ _ _ => addFlag_goesOn .arbLost own⟩

end Sys2Proof.Machine
end

section
/-! An opener that loses arbitration, at any bit of the request part, and how it reads the rest of the byte. -/

namespace Sys2Proof.Machine

/-- The points of the request part. -/
def Point.request (p : Point) : Prop := p = .header ∨ p = .page ∨ p = .field ∨ p = .check

/-- They are bytes before which nothing is prepared. -/
theorem request_byte {p : Point} (h : p.request) : p.isByte = true ∧ p.plainByte ∧ p ≠ .holder := by
  rcases h with rfl | rfl | rfl | rfl <;> simp [Point.isByte, Point.plainByte]

/-- What an opener places in a byte of the request part. -/
theorem ownByte_opener {r : FrameRecord} {s : State} {own : OwnFrame} (at' : r.point.request) (opener : r.part = .opener)
    (has : s.own = some own) : ownByte r s = own.request.getD r.request.length 0xFF := by
  rcases at' with h | h | h | h <;> simp only [ownByte, h, opener, has]

/-- The record of a station that goes on as a participant. -/
def FrameRecord.asParticipant (r : FrameRecord) : FrameRecord := { r with part := .participant }

/-- In the request part an opener loses its frame, and no one else loses anything. -/
theorem loseContest_request {r : FrameRecord} (at' : r.point.request) (s : State) :
    loseContest r s = if r.part = .opener then loseFrame s else s := by
  rcases at' with h | h | h | h <;> simp [loseContest, h]

/-- The bit at which an opener loses: its frame is given up, and it goes on as a participant. -/
theorem afterBit_loses {s : State} {q : FrameRecord} (at' : q.point.request) (opener : q.part = .opener)
    (undriven : drivesBit q (s.withRecord q) = false) : (s.withRecord q).afterBit true q =
      (loseArbitration s).withRecord (q.sampled true false).asParticipant := by
  have lost : loseContest (q.sampled true false) ((s.withRecord q).withRecord (q.sampled true false)) =
      (loseArbitration s).withRecord (q.sampled true false).asParticipant := by
    rw [loseContest_request (r := q.sampled true false) at', if_pos (by exact opener), withRecord_withRecord]
    exact loseArbitration_withRecord s _
  have calm : (q.sampled true false).point ≠ .holder := (request_byte at').2.2
  unfold State.afterBit
  dsimp only
  rw [undriven, followWinner_of (Or.inl calm)]
  exact lost

/-- A station that reads the rest of a byte of the request part as a participant. -/
def ReadsOn (v : State) (r : FrameRecord) (u : State) (bits : List Bool) : Prop :=
  bits ≠ [] ∧ ∃ low held alone, u = v.withRecord (r.asParticipant.reading bits low held alone)

/-- What a participant places in a byte of the request part: nothing. -/
theorem drivesBit_reader {q : FrameRecord} (at' : q.point.request) (part : q.part = .participant) (few : q.bits.length < 8) (s : State) :
    drivesBit q s = false := by
  have placed : ownByte q s = 0xFF := by rcases at' with h | h | h | h <;> simp [ownByte, h, part]
  have ones : ∀ n, n < 8 → (0xFF : Byte).getLsbD n = true := fun n small => by interval_cases n <;> rfl
  rw [drivesBit_byte (by simp [part]) (request_byte at').1, placed, ones _ (by omega)]
  rfl

/-- It reads each bit as the others place it. -/
theorem readsOn_goes {v : State} {r : FrameRecord} (at' : r.point.request) (free : v.arbiter.busyFor .frame = false) (u : State)
    (bits : List Bool) (b : Bool) (few : bits.length < 8) (reads : ReadsOn v r u bits) : ∃ w, ReadsOn v r w (bits ++ [b]) ∧
      bitComplete (!b) u = if bits.length < 7 then w else byteRead (byteOf (bits ++ [b])) w := by
  obtain ⟨some, low, held, alone, rfl⟩ := reads
  have undriven : drivesBit (r.asParticipant.reading bits true (low && held) alone)
      (v.withRecord (r.asParticipant.reading bits true (low && held) alone)) = false :=
    drivesBit_reader (q := r.asParticipant.reading bits true (low && held) alone) at' rfl few _
  have placed : (r.asParticipant.reading bits true (low && held) alone).bits = bits := rfl
  have sampled : (r.asParticipant.reading bits true (low && held) alone).sampled (!b) false =
      r.asParticipant.reading (bits ++ [b]) false false alone := by
    simp [FrameRecord.sampled, FrameRecord.reading]
  have kept := byteBit_kept (r := r.asParticipant.reading bits true (low && held) alone) (others := !b)
    (s := v.withRecord (r.asParticipant.reading bits true (low && held) alone)) (Or.inl (request_byte at').2.2) fun _ _ q same => by
      subst same
      rw [loseContest_request (by exact at')]
      exact if_neg (by simp [FrameRecord.sampled, FrameRecord.reading, FrameRecord.asParticipant])
  rw [undriven, placed, sampled, Bool.false_or, Bool.not_not, withRecord_withRecord] at kept
  refine ⟨v.withRecord (r.asParticipant.reading (bits ++ [b]) false false alone), ⟨by simp, false, false, alone, rfl⟩, ?_⟩
  rw [bitComplete_plain (s := v.withRecord (r.asParticipant.reading bits low held alone))
    (r := r.asParticipant.reading bits low held alone) (!b) rfl (by simp [FrameRecord.asParticipant, FrameRecord.reading])
    (request_byte at').1 (Or.inr (Or.inl some)) free]
  exact kept

/-- A header in which another station places a lower one: the opener has given up its frame and has read the other's header. -/
theorem headerComplete_lost {s : State} {r : FrameRecord} {own row : BitVec 4} {o : StationNo} {number : StationNo} (inFrame : s.frame = some r)
    (point : r.point = .header) (opener : r.part = .opener) (bits : r.bits = []) (free : s.arbiter.busyFor .frame = false)
    (free' : (loseArbitration s).arbiter.busyFor .frame = false)
    (places : ownByte r s = own ++ number) (lower : row ++ o < own ++ number) : ∃ q, q.part = .participant ∧
      headerComplete row o s = headerRead q (row ++ o) ((loseArbitration s).withRecord q) := by
  have at' : r.point.request := Or.inl point
  obtain ⟨byte, plain, calm⟩ := request_byte at'
  have reads : r.part ≠ .onlooker := by simp [opener]
  obtain ⟨v, ⟨-, low, held, alone, rfl⟩, read⟩ := contestedByte (Lost := ReadsOn (loseArbitration s) r) inFrame reads byte plain bits free
    (Or.inl calm) places lower
    (fun bits held alone few one => by
      have undriven : drivesBit (r.reading bits true held alone) (s.withRecord (r.reading bits true held alone)) = false := by
        rw [drivesBit_byte (r := r.reading bits true held alone) reads byte]
        exact congrArg (!·) ((congrArg (fun b : Byte => b.getLsbD (7 - bits.length)) places).trans one)
      rw [afterBit_loses (q := r.reading bits true held alone) at' opener undriven]
      refine ⟨by simp, false, false, alone, ?_⟩
      simp [FrameRecord.sampled, FrameRecord.reading, FrameRecord.asParticipant])
    (readsOn_goes at' free')
  refine ⟨r.asParticipant.reading (byteBits (row ++ o)) low held alone, rfl, ?_⟩
  have kind : (row ++ o).extractLsb' 4 4 = row := BitVec.extractLsb'_append_eq_left
  have whole : byteRead (row ++ o) ((loseArbitration s).withRecord (r.asParticipant.reading (byteBits (row ++ o)) low held alone)) =
      headerRead (r.asParticipant.reading (byteBits (row ++ o)) low held alone) (row ++ o)
        ((loseArbitration s).withRecord (r.asParticipant.reading (byteBits (row ++ o)) low held alone)) := by
    simp [byteRead, FrameRecord.reading, FrameRecord.asParticipant, point]
  rw [headerComplete, read, whole]
  exact if_pos (by simp [headerRead, kind])

/-- The byte of the request part read whole, by its point. -/
theorem byteRead_request {q : FrameRecord} (read : Byte) (s : State) :
    (q.point = .header → byteRead read (s.withRecord q) = headerRead q read (s.withRecord q)) ∧
      (q.point = .page → byteRead read (s.withRecord q) = pageRead q read (s.withRecord q)) ∧
      (∀ k, q.point = .field → q.kind = some k → byteRead read (s.withRecord q) = fieldRead k q read (s.withRecord q)) ∧
      (q.point = .check → byteRead read (s.withRecord q) = requestCheckRead q read (s.withRecord q)) := by
  refine ⟨fun point => ?_, fun point => ?_, fun k point kind => ?_, fun point => ?_⟩
  · simp [byteRead, point]
  · simp [byteRead, point]
  · simp [byteRead, point, kind]
  · simp [byteRead, point]

/-- The defined kinds are the codes below 8. -/
theorem ofCode_isSome : ∀ c : BitVec 4, (Kind.ofCode c).isSome = decide (c.toNat < 8) := by decide

/-- One bit of the request part at which an opener loses. -/
theorem bitComplete_lost {s : State} {r : FrameRecord} (inFrame : s.frame = some r) (at' : r.point.request) (opener : r.part = .opener)
    (one : (ownByte r s).getLsbD (7 - r.bits.length) = true) (free : s.arbiter.busyFor .frame = false) : ∃ q : FrameRecord,
    q.part = .participant ∧ q.bits = r.bits ++ [false] ∧ q.point = r.point ∧ q.request = r.request ∧ q.kindCode = r.kindCode ∧
      bitComplete true s = if r.bits.length < 7 then (loseArbitration s).withRecord q
        else byteRead (byteOf (r.bits ++ [false])) ((loseArbitration s).withRecord q) := by
  obtain ⟨byte, plain, calm⟩ := request_byte at'
  have reads : r.part ≠ .onlooker := by simp [opener]
  have undriven : drivesBit r.lowered (s.withRecord r.lowered) = false := by
    rw [drivesBit_byte (r := r.lowered) reads byte]
    exact congrArg (!·) one
  have placed : r.lowered.bits = r.bits := rfl
  have bits : (r.lowered.sampled true false).asParticipant.bits = r.bits ++ [false] := rfl
  refine ⟨(r.lowered.sampled true false).asParticipant, rfl, bits, rfl, rfl, rfl, ?_⟩
  rw [bitComplete_plain true inFrame reads byte (Or.inr (Or.inr plain)) free, byteBit_eq, undriven, placed,
    afterBit_loses (q := r.lowered) at' opener undriven]
  rfl

end Sys2Proof.Machine

namespace Sys2Proof.Proofs

open Sys2Proof.Machine

/-- Settles O45: an opener that meets a lower header, and one that loses at any bit of the request part. -/
theorem arbitrationLost : Obligations.ArbitrationLost := by
  refine ⟨fun k own o prot s r op tail inFrame point opener request code bits has lower free => ?_,
    fun k prot s r op request inFrame opener few place has one free => ?_⟩
  · have fits : r.fits k.code = true := by simp [FrameRecord.fits, code]
    have before : r.beforeHeader = true := by simp [FrameRecord.beforeHeader, opener, point, bits]
    generalize pin : rowProt k prot s = p
    obtain ⟨own', store, marker, straps, free', flags, slots, discard, entry, upkeep⟩ :=
      loseArbitration_givenUp (s := readProt p s) (by exact has)
    have places : ownByte r (readProt p s) = own.code ++ s.straps.number := by
      rw [ownByte_opener (Or.inl point) opener (s := readProt p s) has, request]
      rfl
    obtain ⟨q, part, read⟩ := headerComplete_lost (s := readProt p s) inFrame point opener bits free (free'.trans free) places lower
    have runs : exec (frameRow k prot [.header o]) s =
        .next (headerRead q (k.code ++ o) ((loseArbitration (readProt p s)).withRecord q)) := by
      rw [exec_frameRow, frameEvents_cons, frameEvents_nil, pin, frameEvent_header (r := r) o (by exact inFrame) fits before, read]
    generalize loseArbitration (readProt p s) = v at runs own' store marker straps flags slots discard entry upkeep
    have kind : (k.code ++ o : Byte).extractLsb' 4 4 = k.code := BitVec.extractLsb'_append_eq_left
    have number : (k.code ++ o : Byte).extractLsb' 0 4 = o := BitVec.extractLsb'_append_eq_right
    refine ⟨_, _, runs, own', rfl, ?_, number, congrArg some kind, ?_, store, flags, slots, fun e isEntry given => ?_, entry, fun k' i isUpkeep => ?_⟩
    · exact (if_pos (by rw [kind, ofCode_code]; rfl)).trans part
    · rw [← show v.marker = s.marker from marker, ← show v.straps = s.straps from straps]
      exact congrArg (fun n => v.marker && n == v.straps.number) number
    · obtain ⟨abandoned, queue, mine, others⟩ := discard e isEntry given
      exact ⟨abandoned, queue, fun i other => others i (Or.inl other), mine⟩
    · obtain ⟨goes, -, -, queue, -⟩ := upkeep k' i isUpkeep
      refine ⟨queue, goes.trans ?_⟩
      congr 1
  · have at' : r.point.request := by
      rcases place with ⟨h, -⟩ | ⟨h | h | h, -⟩ <;> simp [Point.request, h]
    have fits : r.fits k.code = true := by
      rcases place with ⟨-, h⟩ | ⟨-, h⟩ <;> simp [FrameRecord.fits, h]
    generalize pin : rowProt k prot s = p
    obtain ⟨own', store, -, -, -, flags, slots, -, entry, upkeep⟩ := loseArbitration_givenUp (s := readProt p s) (by exact has)
    have placed := ownByte_opener (s := readProt p s) at' opener has
    obtain ⟨q, part, bits, point, req, code, reads⟩ := bitComplete_lost (s := readProt p s) inFrame at' opener (by rw [placed]; exact one) free
    have runs : exec (frameRow k prot [.bit true]) s = .next (if r.bits.length < 7 then (loseArbitration (readProt p s)).withRecord q
        else byteRead (byteOf (r.bits ++ [false])) ((loseArbitration (readProt p s)).withRecord q)) := by
      rw [exec_frameRow, frameEvents_cons, frameEvents_nil, pin, frameEvent_bit (r := r) true (by exact inFrame) fits
        (by simp [FrameRecord.beforeBit, opener]), reads]
    generalize loseArbitration (readProt p s) = v at runs own' store slots entry upkeep
    intro read
    by_cases short : r.bits.length < 7
    · rw [if_pos short] at runs
      exact ⟨_, _, runs, own', rfl, store, fun _ => ⟨part, bits, point⟩, fun whole => absurd short (by omega), slots, entry, upkeep⟩
    · rw [if_neg short] at runs
      have opened : q.opened = false := by simp [FrameRecord.opened, part]
      have participates : q.participates = true := by simp [FrameRecord.participates, part]
      obtain ⟨header, page, field, check⟩ := byteRead_request (q := q) (byteOf (r.bits ++ [false])) v
      rcases place with ⟨here, -⟩ | ⟨here | here | here, kind⟩
      · rw [header (point.trans here)] at runs
        refine ⟨_, _, runs, own', rfl, store, fun few' => absurd few' short, fun _ => ⟨rfl, fun _ => ⟨rfl, rfl, ?_⟩, fun other => ?_,
          fun other => ?_, fun other => ?_⟩, slots, entry, upkeep⟩
        · show (if (Kind.ofCode (read.extractLsb' 4 4)).isSome then q.part else .onlooker) = _
          rw [ofCode_isSome, part]
          simp only [decide_eq_true_eq]
        · simp [here] at other
        · simp [here] at other
        · simp [here] at other
      · rw [page (point.trans here)] at runs
        refine ⟨_, _, runs, own', rfl, store, fun few' => absurd few' short, fun _ => ⟨rfl, fun other => ?_,
          fun _ => ⟨congrArg (· ++ [read]) req, part, rfl⟩, fun other => ?_, fun other => ?_⟩, slots, entry, upkeep⟩
        · simp [here] at other
        · simp [here] at other
        · simp [here] at other
      · rw [field k (point.trans here) (kind_of_code (code.trans kind))] at runs
        refine ⟨_, _, runs, own', rfl, store, fun few' => absurd few' short, fun _ => ⟨rfl, fun other => ?_, fun other => ?_,
          fun _ => ⟨congrArg (· ++ [read]) req, ?_⟩, fun other => ?_⟩, slots, entry, upkeep⟩
        · simp [here] at other
        · simp [here] at other
        · show (if malformed k (q.request ++ [read]) && q.participates then Part.onlooker else q.part) = _
          rw [participates, Bool.and_true, req, part]
        · simp [here] at other
      · rw [check (point.trans here)] at runs
        refine ⟨_, _, runs, own', rfl, store, fun few' => absurd few' short, fun _ => ⟨rfl, fun other => ?_, fun other => ?_,
          fun other => ?_, fun _ => ⟨?_, rfl, ?_⟩⟩, slots, entry, upkeep⟩
        · simp [here] at other
        · simp [here] at other
        · simp [here] at other
        · exact (if_neg (by simp [part])).trans part
        · show (q.opened || crc8 q.request == read) = _
          rw [opened, req, Bool.false_or]

end Sys2Proof.Proofs
end

section
/-! The holder contest (R49, R52, R53): who drives presence, the byte won, and the byte lost with the demotion behind the winner. -/

namespace Sys2Proof.Machine

/-! ### A slot demoted -/

/-- A slot set twice, to states that serve a scrub alike, is set once. -/
theorem setSlot_setSlot (s : State) (i : SlotIx) {d e : Slot} (alike : d.state.serves = e.state.serves) :
    (s.setSlot i d).setSlot i e = s.setSlot i e := by
  simp [State.setSlot, alike]

/-- The station whose slot `i` is demoted behind `w`, where it is demoted. -/
def State.demotedBehind (s : State) (demotes : Bool) (i : SlotIx) (w : StationNo) : State :=
  if demotes then (reportRole true s).setSlot i ((s.slot i).staleBehind w) else s

/-- Whether a driver's slot is demoted as it loses: a PRIMARY, in every kind but CLAIM (R53, R54). -/
def Slot.demotedIn (d : Slot) (k : Kind) : Bool := k != .claim && d.state == .primary

/-- The record of a driver that has lost. -/
def FrameRecord.beaten (r : FrameRecord) (demotes : Bool) : FrameRecord := { r with contest := .lost, demoted := demotes || r.demoted }

@[simp] theorem demotedBehind_store (s : State) (b : Bool) (i : SlotIx) (w : StationNo) : (s.demotedBehind b i w).store = s.store := by
  cases b <;> rfl

theorem demotedBehind_arbiter (s : State) (b : Bool) (i : SlotIx) (w : StationNo) :
    (s.demotedBehind b i w).arbiter.busyFor .frame = s.arbiter.busyFor .frame := by
  cases b <;> rfl

theorem demotedBehind_other (s : State) (b : Bool) {i j : SlotIx} (w : StationNo) (other : j ≠ i) :
    (s.demotedBehind b i w).slot j = s.slot j := by
  cases b with
  | false => rfl
  | true => exact slot_setSlot_ne _ _ other

/-- The slot demoted, and how it is reported. -/
theorem demotedBehind_true (s : State) (i : SlotIx) (w : StationNo) : (s.demotedBehind true i w).slot i = (s.slot i).staleBehind w ∧
    (s.demotedBehind true i w).latches = s.latches ||| (1#6 <<< 2) ∧
    (s.demotedBehind true i w).accrued = s.accrued ||| (1#6 <<< 3) :=
  ⟨slot_setSlot_same _ _ _, rfl, rfl⟩

/-! ### The contest lost -/

/-- A participant that drives the holder byte and has not lost yet. -/
structure Contests (r : FrameRecord) (k : Kind) (i : SlotIx) : Prop where
  point  : r.point = .holder
  part   : r.part = .participant
  kind   : r.kind = some k
  drives : r.roleDrive ≠ .none
  unlost : r.contest ≠ .lost
  slot   : r.slot = some i

/-- The contest a driver loses at a bit. -/
theorem loseContest_holder {q : FrameRecord} {k : Kind} {i : SlotIx} (c : Contests q k i) (s : State) :
    loseContest q (s.withRecord q) =
      (s.demotedBehind ((s.slot i).demotedIn k) i q.winner).withRecord (q.beaten ((s.slot i).demotedIn k)) := by
  obtain ⟨point, part, kind, drives, unlost, slot⟩ := c
  have loses : loseContest q (s.withRecord q) = loseHolder q (s.withRecord q) := by simp [loseContest, point, drives, unlost]
  have reads : q.participates = true ∧ q.originates = false := by simp [FrameRecord.participates, FrameRecord.originates, part]
  rw [loses]
  by_cases claim : k = .claim
  · have stays : (s.slot i).demotedIn k = false := by simp [Slot.demotedIn, claim]
    rw [stays]
    exact if_pos (kind.trans (congrArg some claim))
  · have slotted : loseHolder q (s.withRecord q) = if (s.slot i).state = .primary
        then demoteLoser q i (s.withRecord { q with contest := .lost }) else s.withRecord { q with contest := .lost } := by
      have onSlot : ∀ f u, onSlotOfRecord q f u = f i u := fun f u => by simp [onSlotOfRecord, slot]
      unfold loseHolder
      dsimp only
      rw [if_neg (by simp [kind, claim]), onSlot]
      rfl
    rw [slotted]
    by_cases primary : (s.slot i).state = .primary
    · have demotes : (s.slot i).demotedIn k = true := by simp [Slot.demotedIn, claim, primary]
      have demoted : ∀ u, demoteLoser q i u = reportRole true (becomeStale i (some q.winner)
          (modifyFrame (fun r => { r with demoted := true }) u)) := fun u => by simp [demoteLoser, reads]
      rw [if_pos primary, demoted, demotes]
      rfl
    · have stays : (s.slot i).demotedIn k = false := by simp [Slot.demotedIn, primary]
      rw [if_neg primary, stays]
      rfl

/-- A demoted slot follows the number as it is read. -/
theorem followWinner_demoted {q : FrameRecord} {i : SlotIx} (point : q.point = .holder) (slot : q.slot = some i) (s : State) (w : StationNo)
    (p : FrameRecord) : followWinner q ((s.demotedBehind q.demoted i w).withRecord p) =
      (s.demotedBehind q.demoted i q.winner).withRecord p := by
  cases demoted : q.demoted with
  | false => exact followWinner_of (Or.inr demoted) _
  | true =>
    have found : ((s.demotedBehind true i w).withRecord p).slot i = (s.slot i).staleBehind w := (demotedBehind_true s i w).1
    have stale : ((s.slot i).staleBehind w).state = .stale := rfl
    simp only [followWinner, point, demoted, and_self, if_true, onSlotOfRecord, slot, found, stale]
    exact congrArg (·.withRecord p) (setSlot_setSlot (reportRole true s) i (d := (s.slot i).staleBehind w)
      (e := (s.slot i).staleBehind q.winner) rfl)

/-- The bit at which a driver loses. -/
theorem afterBit_holder {q : FrameRecord} {k : Kind} {i : SlotIx} {s : State} (c : Contests q k i)
    (undriven : drivesBit q (s.withRecord q) = false) (calm : q.demoted = true → (s.slot i).demotedIn k = true) :
    (s.withRecord q).afterBit true q =
      (s.demotedBehind ((s.slot i).demotedIn k) i ((byteOf (q.bits ++ [false])).extractLsb' 0 4)).withRecord
        ((q.sampled true false).beaten ((s.slot i).demotedIn k)) := by
  have c' : Contests (q.sampled true false) k i := ⟨c.point, c.part, c.kind, c.drives, c.unlost, c.slot⟩
  have winner : (q.sampled true false).winner = (byteOf (q.bits ++ [false])).extractLsb' 0 4 := rfl
  have follows : followWinner (q.sampled true false) (loseContest (q.sampled true false) (s.withRecord (q.sampled true false))) =
      (s.demotedBehind ((s.slot i).demotedIn k) i (q.sampled true false).winner).withRecord
        ((q.sampled true false).beaten ((s.slot i).demotedIn k)) := by
    rw [loseContest_holder c']
    cases demoted : q.demoted with
    | false => exact followWinner_of (r := q.sampled true false) (Or.inr demoted) _
    | true =>
      have demoted' : (q.sampled true false).demoted = true := demoted
      rw [calm demoted]
      have same := followWinner_demoted c'.point c'.slot s (q.sampled true false).winner ((q.sampled true false).beaten true)
      rwa [demoted'] at same
  unfold State.afterBit
  dsimp only
  rw [undriven, ← winner, withRecord_withRecord]
  exact follows

/-- A station that has lost the holder byte and reads the rest of it. -/
def HolderLost (s : State) (r : FrameRecord) (demotes : Bool) (i : SlotIx) (u : State) (bits : List Bool) : Prop :=
  bits ≠ [] ∧ ∃ low held alone, u = (s.demotedBehind demotes i ((byteOf bits).extractLsb' 0 4)).withRecord
    ((r.beaten demotes).reading bits low held alone)

/-- It reads each bit as the others place it, and its slot follows. -/
theorem holderLost_goes {s : State} {r : FrameRecord} {k : Kind} {i : SlotIx} (demotes : Bool) (c : Contests r k i)
    (calm : r.demoted = false) (free : s.arbiter.busyFor .frame = false) (u : State) (bits : List Bool) (b : Bool) (few : bits.length < 8)
    (lost : HolderLost s r demotes i u bits) : ∃ v, HolderLost s r demotes i v (bits ++ [b]) ∧
      bitComplete (!b) u = if bits.length < 7 then v else byteRead (byteOf (bits ++ [b])) v := by
  obtain ⟨some, low, held, alone, rfl⟩ := lost
  generalize number : (byteOf bits).extractLsb' 0 4 = w
  have free' := (demotedBehind_arbiter s demotes i w).trans free
  have reads : ((r.beaten demotes).reading bits true (low && held) alone).part ≠ .onlooker := by
    show r.part ≠ .onlooker
    simp [c.part]
  have point : ((r.beaten demotes).reading bits true (low && held) alone).point = .holder := c.point
  have byte : ((r.beaten demotes).reading bits true (low && held) alone).point.isByte = true := by rw [point]; rfl
  have contest : ((r.beaten demotes).reading bits true (low && held) alone).contest = .lost := rfl
  have undriven : ∀ t, drivesBit ((r.beaten demotes).reading bits true (low && held) alone) t = false := fun t => by
    have placed : ownByte ((r.beaten demotes).reading bits true (low && held) alone) t = 0xFF := by
      simp only [ownByte, point, contest, or_true, if_true]
    have ones : ∀ n, n < 8 → (0xFF : Byte).getLsbD n = true := fun n small => by interval_cases n <;> rfl
    rw [drivesBit_byte reads byte, placed, ones _ (by omega)]
    rfl
  have sampled : ((r.beaten demotes).reading bits true (low && held) alone).sampled (!b) false =
      (r.beaten demotes).reading (bits ++ [b]) false false alone := by
    simp [FrameRecord.sampled, FrameRecord.reading]
  have keeps : ∀ t, loseContest ((r.beaten demotes).reading (bits ++ [b]) false false alone) t = t := fun t => by
    simp [loseContest, FrameRecord.reading, FrameRecord.beaten, c.point]
  have demoted : ((r.beaten demotes).reading (bits ++ [b]) false false alone).demoted = demotes := by
    simp [FrameRecord.reading, FrameRecord.beaten, calm]
  have follows := followWinner_demoted (q := (r.beaten demotes).reading (bits ++ [b]) false false alone) c.point c.slot s w
    ((r.beaten demotes).reading (bits ++ [b]) false false alone)
  rw [demoted] at follows
  refine ⟨(s.demotedBehind demotes i ((byteOf (bits ++ [b])).extractLsb' 0 4)).withRecord
    ((r.beaten demotes).reading (bits ++ [b]) false false alone), ⟨by simp, false, false, alone, rfl⟩, ?_⟩
  have lowered : ((r.beaten demotes).reading bits low held alone).lowered = (r.beaten demotes).reading bits true (low && held) alone := rfl
  have placed : ((r.beaten demotes).reading bits true (low && held) alone).bits = bits := rfl
  have after : ((s.demotedBehind demotes i w).withRecord ((r.beaten demotes).reading bits true (low && held) alone)).afterBit (!b)
      ((r.beaten demotes).reading bits true (low && held) alone) =
        (s.demotedBehind demotes i ((byteOf (bits ++ [b])).extractLsb' 0 4)).withRecord
          ((r.beaten demotes).reading (bits ++ [b]) false false alone) := by
    unfold State.afterBit
    dsimp only
    rw [undriven, sampled, withRecord_withRecord, keeps, ite_self]
    exact follows
  rw [bitComplete_plain (s := (s.demotedBehind demotes i w).withRecord ((r.beaten demotes).reading bits low held alone))
    (r := (r.beaten demotes).reading bits low held alone) (!b) rfl reads byte (Or.inr (Or.inl some)) free',
    lowered, withRecord_withRecord, byteBit_eq, undriven, placed, after, Bool.false_or, Bool.not_not]

/-! ### The byte -/

/-- What a driver places in the holder byte: its number. -/
theorem ownByte_holder {r : FrameRecord} {k : Kind} {i : SlotIx} (c : Contests r k i) (s : State) :
    ownByte r s = 0#4 ++ s.straps.number := by
  simp [ownByte, c.point, c.drives, c.unlost, State.number]

/-- The holder byte read whole. -/
theorem byteRead_holder {q : FrameRecord} {k : Kind} (point : q.point = .holder) (kind : q.kind = some k) (read : Byte) (s : State) :
    byteRead read (s.withRecord q) = holderByteRead k q read (s.withRecord q) := by
  simp [byteRead, point, kind]

/-- The station a number names. -/
theorem holderOf_number : ∀ w : StationNo, holderOf (0#4 ++ w) = some w := by decide

/-- The holder byte in which another station places a lower number. -/
theorem byteComplete_holderLost {s : State} {r : FrameRecord} {k : Kind} {i : SlotIx} {w : StationNo} (inFrame : s.frame = some r)
    (c : Contests r k i) (bits : r.bits = []) (calm : r.demoted = false) (free : s.arbiter.busyFor .frame = false)
    (lower : w < s.straps.number) : ∃ q, q.contest = .lost ∧ q.roleDrive ≠ .none ∧
      byteComplete (0#4 ++ w) s =
        holderByteRead k q (0#4 ++ w) ((s.demotedBehind ((s.slot i).demotedIn k) i w).withRecord q) := by
  have byte : r.point.isByte = true := by rw [c.point]; rfl
  have reads : r.part ≠ .onlooker := by simp [c.part]
  have lower' : (0#4 ++ w : Byte) < 0#4 ++ s.straps.number :=
    (show ∀ a b : BitVec 4, a < b → (0#4 ++ a : Byte) < 0#4 ++ b by decide) w s.straps.number lower
  obtain ⟨v, ⟨-, low, held, alone, rfl⟩, read⟩ := contestedByte (Lost := HolderLost s r ((s.slot i).demotedIn k) i) inFrame reads byte
    (by simp [Point.plainByte, c.point]) bits free (Or.inr calm) (ownByte_holder c s) lower'
    (fun bits held alone few one => by
      have undriven : drivesBit (r.reading bits true held alone) (s.withRecord (r.reading bits true held alone)) = false := by
        rw [drivesBit_byte (r := r.reading bits true held alone) reads byte]
        exact congrArg (!·) ((congrArg (fun b : Byte => b.getLsbD (7 - bits.length)) (ownByte_holder c s)).trans one)
      have c' : Contests (r.reading bits true held alone) k i := ⟨c.point, c.part, c.kind, c.drives, c.unlost, c.slot⟩
      rw [afterBit_holder c' undriven fun demoted => absurd (demoted.symm.trans calm) (by decide)]
      refine ⟨by simp, false, false, alone, ?_⟩
      simp [FrameRecord.sampled, FrameRecord.reading, FrameRecord.beaten, c.part])
    (holderLost_goes _ c calm free)
  have number : (byteOf (byteBits (0#4 ++ w))).extractLsb' 0 4 = w := by
    rw [byteOf_byteBits]
    exact BitVec.extractLsb'_append_eq_right
  rw [number] at read
  exact ⟨(r.beaten ((s.slot i).demotedIn k)).reading (byteBits (0#4 ++ w)) low held alone, rfl, c.drives,
    read.trans (byteRead_holder (q := (r.beaten _).reading _ low held alone) c.point c.kind _ _)⟩

end Sys2Proof.Machine

namespace Sys2Proof.Proofs

open Sys2Proof.Machine

/-- Settles O48: who drives presence, the holder byte won and lost, and the demotion at the bit that loses it. -/
theorem holderContest : Obligations.HolderContest := by
  refine ⟨fun k prot others s r i stands slot free => ?_, fun k prot s r i stands part drives contest calm slot free => ⟨?_, fun w lower => ?_⟩,
    fun k prot s r i unclaimed inFrame code point part drives contest slot primary few one free => ?_⟩
  · intro st included drives
    have runs := stands.exec_bit prot others (by decide) free (prepares_plain (by rw [stands.2.2.1]; decide))
    generalize rowProt k prot s = p at runs
    have point : r.lowered.point = .presence := stands.2.2.1
    have places := ownBit_presence (k := k) point (kind_of_code (r := r) stands.2.1) (s.atSample p r)
    have table : drivesPresence k r.lowered (s.atSample p r) = true ↔ drives := drivesPresence_iff (r := r.lowered) k slot
    rw [singleBit_presence point, places] at runs
    generalize drivesPresence k r.lowered (s.atSample p r) = own at runs table
    refine ⟨_, _, runs, rfl, rfl, rfl, rfl, rfl, fun found => ?_, fun found => ?_⟩
    · have driven : own = true := table.mpr found
      subst driven
      exact ⟨rfl, rfl⟩
    · have quiet : own = false := Bool.eq_false_iff.mpr fun driven => found (table.mp driven)
      subst quiet
      exact ⟨rfl, rfl⟩
  · have c : Contests r k i := ⟨stands.2.2.1, part, kind_of_code stands.2.1, drives, by simp [contest], slot⟩
    have runs := stands.exec_byte prot 0xFF (by decide) (by decide) (Or.inr (by simp [Point.plainByte])) free (Or.inr calm)
      (fun _ => losesNothing_alone _ _)
    rw [ownByte_holder c, show (0#4 ++ s.straps.number : Byte) &&& 0xFF = 0#4 ++ s.straps.number from BitVec.and_allOnes,
      byteRead_holder (q := r.withByte (0#4 ++ s.straps.number) 0xFF) c.point c.kind] at runs
    exact ⟨_, _, runs, rfl, holderOf_number _, (if_neg drives).trans (if_neg c.unlost), rfl, rfl⟩
  · have c : Contests r k i := ⟨stands.2.2.1, part, kind_of_code stands.2.1, drives, by simp [contest], slot⟩
    obtain ⟨inFrame, code, point, reads, bits, -⟩ := stands
    generalize pin : rowProt k prot s = p
    have before : r.beforeByte = true := by simp [FrameRecord.beforeByte, part, point, bits, Point.isByte]
    obtain ⟨q, lost, drives', read⟩ := byteComplete_holderLost (s := readProt p s) inFrame c bits calm free lower
    have runs : exec (frameRow k prot [.byte (0#4 ++ w)]) s = .next (holderByteRead k q (0#4 ++ w)
        (((readProt p s).demotedBehind ((s.slot i).demotedIn k) i w).withRecord q)) := by
      rw [exec_frameRow, frameEvents_cons, frameEvents_nil, pin, frameEvent_byte (r := r) _ (by exact inFrame) (fits_code code) before, read]
      rfl
    have store := demotedBehind_store (readProt p s) ((s.slot i).demotedIn k) i w
    have others := fun j => demotedBehind_other (readProt p s) ((s.slot i).demotedIn k) (i := i) (j := j) w
    have demoted := demotedBehind_true (readProt p s) i w
    refine ⟨_, _, runs, rfl, holderOf_number w, (if_neg drives').trans (if_pos lost), others, store, fun unclaimed primary => ?_, fun keeps => ?_⟩
    · have demotes : (s.slot i).demotedIn k = true := by simp [Slot.demotedIn, unclaimed, primary]
      rw [demotes]
      exact demoted
    · have stays : (s.slot i).demotedIn k = false := by
        rcases keeps with claim | other
        · simp [Slot.demotedIn, claim]
        · simp [Slot.demotedIn, other]
      rw [stays]
      exact ⟨rfl, rfl, rfl⟩
  · have c : Contests r.lowered k i := ⟨point, part, kind_of_code (r := r) code, drives, by simp [FrameRecord.lowered, contest], slot⟩
    have byte : r.point.isByte = true := by rw [point]; rfl
    have reads : r.part ≠ .onlooker := by simp [part]
    have demotes : (s.slot i).demotedIn k = true := by simp [Slot.demotedIn, unclaimed, primary]
    have before : r.beforeBit = true := by simp [FrameRecord.beforeBit, part]
    generalize pin : rowProt k prot s = p
    have undriven : drivesBit r.lowered ((readProt p s).withRecord r.lowered) = false := by
      rw [drivesBit_byte (r := r.lowered) reads byte, ownByte_holder c]
      exact congrArg (!·) one
    have lost := afterBit_holder (s := readProt p s) c undriven fun _ => demotes
    have runs : exec (frameRow k prot [.bit true]) s = .next (((readProt p s).demotedBehind true i
        ((byteOf (r.bits ++ [false])).extractLsb' 0 4)).withRecord ((r.lowered.sampled true false).beaten true)) := by
      rw [exec_frameRow, frameEvents_cons, frameEvents_nil, pin, frameEvent_bit (r := r) true (by exact inFrame) (fits_code code) before,
        bitComplete_plain true (by exact inFrame) reads byte (Or.inr (Or.inr (by simp [Point.plainByte, point]))) (by exact free),
        byteBit_eq, if_pos (by exact few), lost, show ((readProt p s).slot i).demotedIn k = true from demotes]
      rfl
    have store := demotedBehind_store (readProt p s) true i ((byteOf (r.bits ++ [false])).extractLsb' 0 4)
    have others := fun j => demotedBehind_other (readProt p s) true (i := i) (j := j) ((byteOf (r.bits ++ [false])).extractLsb' 0 4)
    obtain ⟨mine, latches, accrued⟩ := demotedBehind_true (readProt p s) i ((byteOf (r.bits ++ [false])).extractLsb' 0 4)
    exact ⟨_, _, runs, rfl, rfl, mine, others, store, latches, accrued⟩

end Sys2Proof.Proofs
end
